-- ==== Sys2Proof/Word.lean ====
section
/-! DEFINITION. The machine's word types (00_scope.md R7, R10: every register value is a 32-bit bit vector; 10_state.md
R58: memory is byte addressed). -/

namespace Sys2Proof

/-- A 32-bit register value, address or instruction word (R7, R10). -/
abbrev Word := BitVec 32

/-- A 16-bit halfword of memory, or the immediate field of an I-type instruction (R13, R83). -/
abbrev Half := BitVec 16

/-- One byte of memory (R58). -/
abbrev Byte := BitVec 8

/-- A register number 0 to 31, as the 5-bit fields `rs`, `rt`, `rd` name it (R21, R119). -/
abbrev Reg := BitVec 5

end Sys2Proof
end

