-- ==== Sys2Proof/Config.lean ====
section
/-! DEFINITION. What the source fixes for every implementation (00_scope.md R7), what an implementation fixes (R8), and
the free values: uninterpreted constants, of which nothing can be proved, that stand for every value the spec leaves
unspecified (`any32`, `anybit` of R11; 93_implementation_defined.md). -/

namespace Sys2Proof

/-- The address of the first instruction after reset (R7, R86). -/
def Config.resetVector : Word := 0x00001000#32

/-- The one address every exception and every interrupt enters (R7, R86; 90_conflicts.md C8). -/
def Config.exceptionVector : Word := 0x00001100#32

/-- The three subsets of the ISA (R2), the values of the parameter `VARIANT` (R8). -/
inductive Variant where
  | v1
  | v2
  | v3
deriving DecidableEq, Repr

/-- The implementation parameters of R8 that change what an instruction does. They stand in the state, which no step
changes, so that a statement about every state is a statement about every implementation (log 7). -/
structure Params where
  /-- `VARIANT`: which of SMIPSv1, SMIPSv2 and SMIPSv3 is built (R8, R136; log 27). -/
  variant : Variant
  /-- `HAS_COP2`: an implementation-defined Coprocessor 2 is attached (R8, R280). -/
  hasCop2 : Bool
  /-- `PA_BITS`: how many low-order address bits the memory system decodes, 1 to 32 (R8, R71). -/
  paBits : Nat
deriving DecidableEq, Repr

/-- The defaults of R8: SMIPSv3, no Coprocessor 2, 32 address bits. -/
def Config.defaults : Params := { variant := .v3, hasCop2 := false, paBits := 32 }

/-- FREE VALUE `any32` (R11): the n-th value the machine draws. Safe: no proof can see which value it is (log 3). -/
opaque Config.any32 : Nat → Word

/-- FREE VALUE `anybit` (R11): the n-th bit the machine draws. Safe (log 3). -/
opaque Config.anyBit : Nat → Bool

/-- FREE VALUE: the n-th natural number the machine draws, from which `TICKS` is made where no input lists the ticks of
a boundary (R8; 70_reset_and_hazards.md R381). Safe (log 4, log 21). -/
opaque Config.anyNat : Nat → Nat

/-- FREE VALUE `MEM_INIT` (R8, R60; 92_eei_decisions.md D29): what a byte of physical memory holds after the given
number of resets while nothing has stored to it: unknown, and the same at every read. Safe (log 2). -/
opaque Config.memInit (resets physicalAddress : Nat) : Byte

/-- What a COP2 operation leaves behind (R287): the coprocessor's new state, and whatever general registers and bytes
of memory it writes, since the source does not say whether it may write them. -/
structure Cop2Effect where
  c2 : Nat
  regs : List (Reg × Word)
  bytes : List (Word × Byte)
deriving DecidableEq, Repr, Inhabited

/-- FREE VALUE `C2Read` (R281; 93_implementation_defined.md U5): the value MFC2 reads (log 8). -/
opaque Config.c2Read (c2 : Nat) (r : Reg) : Word

/-- FREE VALUE: the coprocessor's state after an MFC2, whose side effect is implementation defined (R281). -/
opaque Config.c2AfterRead (c2 : Nat) (r : Reg) : Nat

/-- FREE VALUE `C2Write` (R282): the coprocessor's state after an MTC2. -/
opaque Config.c2Write (c2 : Nat) (r : Reg) (v : Word) : Nat

/-- FREE VALUE `C2ReadCtl` (R283): the value CFC2 reads. -/
opaque Config.c2ReadCtl (c2 : Nat) (r : Reg) : Word

/-- FREE VALUE: the coprocessor's state after a CFC2. -/
opaque Config.c2AfterReadCtl (c2 : Nat) (r : Reg) : Nat

/-- FREE VALUE `C2WriteCtl` (R284): the coprocessor's state after a CTC2. -/
opaque Config.c2WriteCtl (c2 : Nat) (r : Reg) (v : Word) : Nat

/-- FREE VALUE `C2LoadTarget` (R285): the coprocessor's state after it receives a loaded word. -/
opaque Config.c2LoadTarget (c2 : Nat) (r : Reg) (v : Word) : Nat

/-- FREE VALUE `C2StoreSource` (R286): the word an SWC2 stores. -/
opaque Config.c2StoreSource (c2 : Nat) (r : Reg) : Word

/-- FREE VALUE: the coprocessor's state after an SWC2 has read it. -/
opaque Config.c2AfterStore (c2 : Nat) (r : Reg) : Nat

/-- FREE VALUE `C2Op` (R287): the effect of a COP2 operation, which may read the general registers and memory (given
as the listed cells and the number of resets, on which the unlisted bytes depend). -/
opaque Config.c2Op (c2 : Nat) (copfunc : BitVec 25) (regs : Vector Word 31) (mem : List Host.Cell) (resets : Nat) :
    Cop2Effect

/-- FREE VALUE: whether user mode may execute the Coprocessor 2 instructions (R288; U5). -/
opaque Config.c2UserUsable : Bool

/-- FREE VALUE: the coprocessor's state after a reset (R360 leaves all other state undefined). -/
opaque Config.c2AfterReset (draw : Nat) : Nat

end Sys2Proof
end

