-- ==== Sys2Proof/Syntax.lean ====
section
/-! DEFINITION. The instructions: one constructor for each of the 65 rows of 30_encoding.md R125, in the table's order,
with the row's operand fields in the order of the assembler syntax (R140). Every field has exactly the width the
encoding gives it (R13), so no term of this type names a register, a shift amount or an immediate that cannot be
encoded: there is no ill-formed instruction. -/

namespace Sys2Proof

/-- The 65 instructions of Tables 6 and 7 of the source (R125). -/
inductive Instr where
  -- loads and stores (40_loads_stores.md): rt, then base register rs, then the signed offset
  | lb (rt rs : Reg) (imm : Half)
  | lh (rt rs : Reg) (imm : Half)
  | lw (rt rs : Reg) (imm : Half)
  | lbu (rt rs : Reg) (imm : Half)
  | lhu (rt rs : Reg) (imm : Half)
  | ll (rt rs : Reg) (imm : Half)
  | sb (rt rs : Reg) (imm : Half)
  | sh (rt rs : Reg) (imm : Half)
  | sw (rt rs : Reg) (imm : Half)
  | sc (rt rs : Reg) (imm : Half)
  -- register-immediate (41_computational_imm.md)
  | addi (rt rs : Reg) (imm : Half)
  | addiu (rt rs : Reg) (imm : Half)
  | slti (rt rs : Reg) (imm : Half)
  | sltiu (rt rs : Reg) (imm : Half)
  | andi (rt rs : Reg) (imm : Half)
  | ori (rt rs : Reg) (imm : Half)
  | xori (rt rs : Reg) (imm : Half)
  | lui (rt : Reg) (imm : Half)
  -- register-register (42_computational_reg.md); the variable shifts name the amount register last
  | sll (rd rt : Reg) (shamt : BitVec 5)
  | srl (rd rt : Reg) (shamt : BitVec 5)
  | sra (rd rt : Reg) (shamt : BitVec 5)
  | sllv (rd rt rs : Reg)
  | srlv (rd rt rs : Reg)
  | srav (rd rt rs : Reg)
  | add (rd rs rt : Reg)
  | addu (rd rs rt : Reg)
  | sub (rd rs rt : Reg)
  | subu (rd rs rt : Reg)
  | and (rd rs rt : Reg)
  | or (rd rs rt : Reg)
  | xor (rd rs rt : Reg)
  | nor (rd rs rt : Reg)
  | slt (rd rs rt : Reg)
  | sltu (rd rs rt : Reg)
  -- multiply and divide (43_multiply_divide.md)
  | mfhi (rd : Reg)
  | mthi (rs : Reg)
  | mflo (rd : Reg)
  | mtlo (rs : Reg)
  | mult (rs rt : Reg)
  | multu (rs rt : Reg)
  | div (rs rt : Reg)
  | divu (rs rt : Reg)
  -- jumps and branches (44_jumps_branches.md)
  | j (target : BitVec 26)
  | jal (target : BitVec 26)
  | jr (rs : Reg)
  | jalr (rd rs : Reg)
  | beq (rs rt : Reg) (imm : Half)
  | bne (rs rt : Reg) (imm : Half)
  | blez (rs : Reg) (imm : Half)
  | bgtz (rs : Reg) (imm : Half)
  | bltz (rs : Reg) (imm : Half)
  | bgez (rs : Reg) (imm : Half)
  -- system coprocessor (45_cop0.md): rt the general register, rd the CP0 register number
  | mfc0 (rt : Reg) (rd : Reg)
  | mtc0 (rt : Reg) (rd : Reg)
  | eret
  -- Coprocessor 2 (46_cop2.md)
  | mfc2 (rt : Reg) (rd : Reg)
  | mtc2 (rt : Reg) (rd : Reg)
  | cfc2 (rt : Reg) (rd : Reg)
  | ctc2 (rt : Reg) (rd : Reg)
  | lwc2 (rt rs : Reg) (imm : Half)
  | swc2 (rt rs : Reg) (imm : Half)
  | cop2 (copfunc : BitVec 25)
  -- special (47_special.md); `brk` is BREAK
  | syscall (code : BitVec 20)
  | brk (code : BitVec 20)
  | sync
deriving DecidableEq, Repr

end Sys2Proof
end

