-- ==== Sys2Proof/Decode.lean ====
section
/-! DEFINITION. How a 32-bit word selects an instruction (30_encoding.md R110 to R136), and the encoder. Decoding is
total: a word that matches no row of R125 is rejected with the name of what is wrong with it. -/

namespace Sys2Proof

/-! ## The fields of an instruction word (00_scope.md R13) -/

def fieldOpcode (w : Word) : BitVec 6 := w.extractLsb' 26 6
def fieldRs (w : Word) : Reg := w.extractLsb' 21 5
def fieldRt (w : Word) : Reg := w.extractLsb' 16 5
def fieldRd (w : Word) : Reg := w.extractLsb' 11 5
def fieldShamt (w : Word) : BitVec 5 := w.extractLsb' 6 5
def fieldFunct (w : Word) : BitVec 6 := w.extractLsb' 0 6
def fieldImm (w : Word) : Half := w.extractLsb' 0 16
def fieldTarget (w : Word) : BitVec 26 := w.extractLsb' 0 26
def fieldCode (w : Word) : BitVec 20 := w.extractLsb' 6 20
def fieldCopfunc (w : Word) : BitVec 25 := w.extractLsb' 0 25
/-- Bit 25 of a coprocessor word, the one-bit field CO of R114 and R124. -/
def fieldCo (w : Word) : BitVec 1 := w.extractLsb' 25 1

/-! ## Decoding -/

/-- Why a word is a reserved instruction (R130 lists the classes). -/
inductive Reject where
  /-- One of the 34 major opcodes of R121 to which nothing is assigned. -/
  | majorOpcode
  /-- One of the 35 SPECIAL functions of R122 to which nothing is assigned. -/
  | specialFunction
  /-- One of the 30 REGIMM values of R123 to which nothing is assigned. -/
  | regimmValue
  /-- A coprocessor sub-opcode of R124 to which nothing is assigned. -/
  | coprocessorOperation
  /-- A one where R125 shows a fixed zero (R132). -/
  | fixedZeroField
  /-- Not four bytes (R110: every instruction is one 32-bit word). Only a caller of `decodeBytes` can meet it. -/
  | length
deriving DecidableEq, Repr

/-- What decoding finds: an instruction, or a reserved word. -/
inductive Decoded where
  | instr (i : Instr)
  | reserved (why : Reject)
deriving DecidableEq, Repr

/-- The instruction, if the bits the row prints as zero are zero (R132). -/
def whenZero (zeroBits : Bool) (i : Instr) : Decoded :=
  if zeroBits then .instr i else .reserved .fixedZeroField

/-- Major opcode SPECIAL: the function field selects (R122). -/
def decodeSpecial (w : Word) : Decoded :=
  let rs := fieldRs w
  let rt := fieldRt w
  let rd := fieldRd w
  let sh := fieldShamt w
  match fieldFunct w with
  | 0x00#6 => whenZero (rs == 0) (.sll rd rt sh)
  | 0x02#6 => whenZero (rs == 0) (.srl rd rt sh)
  | 0x03#6 => whenZero (rs == 0) (.sra rd rt sh)
  | 0x04#6 => whenZero (sh == 0) (.sllv rd rt rs)
  | 0x06#6 => whenZero (sh == 0) (.srlv rd rt rs)
  | 0x07#6 => whenZero (sh == 0) (.srav rd rt rs)
  | 0x08#6 => whenZero (rt == 0 && rd == 0 && sh == 0) (.jr rs)
  | 0x09#6 => whenZero (rt == 0 && sh == 0) (.jalr rd rs)
  | 0x0c#6 => .instr (.syscall (fieldCode w))
  | 0x0d#6 => .instr (.brk (fieldCode w))
  | 0x0f#6 => whenZero (fieldCode w == 0) .sync
  | 0x10#6 => whenZero (rs == 0 && rt == 0 && sh == 0) (.mfhi rd)
  | 0x11#6 => whenZero (rt == 0 && rd == 0 && sh == 0) (.mthi rs)
  | 0x12#6 => whenZero (rs == 0 && rt == 0 && sh == 0) (.mflo rd)
  | 0x13#6 => whenZero (rt == 0 && rd == 0 && sh == 0) (.mtlo rs)
  | 0x18#6 => whenZero (rd == 0 && sh == 0) (.mult rs rt)
  | 0x19#6 => whenZero (rd == 0 && sh == 0) (.multu rs rt)
  | 0x1a#6 => whenZero (rd == 0 && sh == 0) (.div rs rt)
  | 0x1b#6 => whenZero (rd == 0 && sh == 0) (.divu rs rt)
  | 0x20#6 => whenZero (sh == 0) (.add rd rs rt)
  | 0x21#6 => whenZero (sh == 0) (.addu rd rs rt)
  | 0x22#6 => whenZero (sh == 0) (.sub rd rs rt)
  | 0x23#6 => whenZero (sh == 0) (.subu rd rs rt)
  | 0x24#6 => whenZero (sh == 0) (.and rd rs rt)
  | 0x25#6 => whenZero (sh == 0) (.or rd rs rt)
  | 0x26#6 => whenZero (sh == 0) (.xor rd rs rt)
  | 0x27#6 => whenZero (sh == 0) (.nor rd rs rt)
  | 0x2a#6 => whenZero (sh == 0) (.slt rd rs rt)
  | 0x2b#6 => whenZero (sh == 0) (.sltu rd rs rt)
  | _ => .reserved .specialFunction

/-- Major opcode REGIMM: the `rt` field selects (R123). -/
def decodeRegimm (w : Word) : Decoded :=
  match fieldRt w with
  | 0#5 => .instr (.bltz (fieldRs w) (fieldImm w))
  | 1#5 => .instr (.bgez (fieldRs w) (fieldImm w))
  | _ => .reserved .regimmValue

/-- Bits 10:0 are zero, as the coprocessor moves require (R124). -/
def coprocessorMoveZero (w : Word) : Bool := fieldShamt w == 0 && fieldFunct w == 0

/-- Major opcode COP0 (R124): MF, MT, and CO with the one function ERET. -/
def decodeCop0 (w : Word) : Decoded :=
  match fieldRs w with
  | 0x00#5 => whenZero (coprocessorMoveZero w) (.mfc0 (fieldRt w) (fieldRd w))
  | 0x04#5 => whenZero (coprocessorMoveZero w) (.mtc0 (fieldRt w) (fieldRd w))
  | 0x10#5 => if fieldCopfunc w = 0x0000018#25 then .instr .eret else .reserved .coprocessorOperation
  | _ => .reserved .coprocessorOperation

/-- Major opcode COP2 (R124): the four moves, or any word with bit 25 set, a COP2 operation. -/
def decodeCop2 (w : Word) : Decoded :=
  if fieldCo w = 1#1 then .instr (.cop2 (fieldCopfunc w))
  else
    match fieldRs w with
    | 0x00#5 => whenZero (coprocessorMoveZero w) (.mfc2 (fieldRt w) (fieldRd w))
    | 0x02#5 => whenZero (coprocessorMoveZero w) (.cfc2 (fieldRt w) (fieldRd w))
    | 0x04#5 => whenZero (coprocessorMoveZero w) (.mtc2 (fieldRt w) (fieldRd w))
    | 0x06#5 => whenZero (coprocessorMoveZero w) (.ctc2 (fieldRt w) (fieldRd w))
    | _ => .reserved .coprocessorOperation

/-- The decoding procedure of R120: the major opcode map of R121, and the maps below it. -/
def decodeWord (w : Word) : Decoded :=
  let rs := fieldRs w
  let rt := fieldRt w
  let imm := fieldImm w
  match fieldOpcode w with
  | 0x00#6 => decodeSpecial w
  | 0x01#6 => decodeRegimm w
  | 0x02#6 => .instr (.j (fieldTarget w))
  | 0x03#6 => .instr (.jal (fieldTarget w))
  | 0x04#6 => .instr (.beq rs rt imm)
  | 0x05#6 => .instr (.bne rs rt imm)
  | 0x06#6 => whenZero (rt == 0) (.blez rs imm)
  | 0x07#6 => whenZero (rt == 0) (.bgtz rs imm)
  | 0x08#6 => .instr (.addi rt rs imm)
  | 0x09#6 => .instr (.addiu rt rs imm)
  | 0x0a#6 => .instr (.slti rt rs imm)
  | 0x0b#6 => .instr (.sltiu rt rs imm)
  | 0x0c#6 => .instr (.andi rt rs imm)
  | 0x0d#6 => .instr (.ori rt rs imm)
  | 0x0e#6 => .instr (.xori rt rs imm)
  | 0x0f#6 => whenZero (rs == 0) (.lui rt imm)
  | 0x10#6 => decodeCop0 w
  | 0x12#6 => decodeCop2 w
  | 0x20#6 => .instr (.lb rt rs imm)
  | 0x21#6 => .instr (.lh rt rs imm)
  | 0x23#6 => .instr (.lw rt rs imm)
  | 0x24#6 => .instr (.lbu rt rs imm)
  | 0x25#6 => .instr (.lhu rt rs imm)
  | 0x28#6 => .instr (.sb rt rs imm)
  | 0x29#6 => .instr (.sh rt rs imm)
  | 0x2b#6 => .instr (.sw rt rs imm)
  | 0x30#6 => .instr (.ll rt rs imm)
  | 0x32#6 => .instr (.lwc2 rt rs imm)
  | 0x38#6 => .instr (.sc rt rs imm)
  | 0x3a#6 => .instr (.swc2 rt rs imm)
  | _ => .reserved .majorOpcode

/-! ## Words as bytes: the byte at the lowest address is the most significant (20_memory.md R72, R75) -/

/-- A word assembled from the four bytes of memory that hold it, the lowest address first (R72, R75). -/
def wordOfBytes (b0 b1 b2 b3 : Byte) : Word := b0 ++ b1 ++ b2 ++ b3

/-- The four bytes of a word, the one stored at the lowest address first (R73). -/
def bytesOfWord (w : Word) : List Byte :=
  [w.extractLsb' 24 8, w.extractLsb' 16 8, w.extractLsb' 8 8, w.extractLsb' 0 8]

/-- Decoding the bytes of memory at an instruction's address; a decoder always consumes exactly four (R110). -/
def decodeBytes : List Byte → Decoded
  | [b0, b1, b2, b3] => decodeWord (wordOfBytes b0 b1 b2 b3)
  | _ => .reserved .length

/-- The instruction the decoder reads from the word whose bits 0 to `nbits - 1` are those of `w` and whose other bits
are zero, laid out in memory as the hardware stores it; `none` where the word is reserved. -/
def decodeTableWord (nbits w : Nat) : Option Instr :=
  match decodeBytes (bytesOfWord (BitVec.ofNat 32 (w % 2 ^ nbits))) with
  | .instr i => some i
  | .reserved _ => none

/-! ## Encoding -/

/-- An R-type word (R111). -/
def encodeR (op : BitVec 6) (rs rt rd sh : BitVec 5) (funct : BitVec 6) : Word :=
  op ++ (rs ++ (rt ++ (rd ++ (sh ++ funct))))

/-- An I-type word (R112). -/
def encodeI (op : BitVec 6) (rs rt : BitVec 5) (imm : Half) : Word := op ++ (rs ++ (rt ++ imm))

/-- A J-type word (R113). -/
def encodeJ (op : BitVec 6) (target : BitVec 26) : Word := op ++ target

/-- The word of SYSCALL, BREAK and SYNC (R114). -/
def encodeCode (code : BitVec 20) (funct : BitVec 6) : Word := 0x00#6 ++ (code ++ funct)

/-- The word of a coprocessor operation, bit 25 set (R114, R124). -/
def encodeCo (op : BitVec 6) (copfunc : BitVec 25) : Word := op ++ (1#1 ++ copfunc)

/-- The word of an instruction, written from the rows of R125. -/
def encode : Instr → Word
  | .lb rt rs imm => encodeI 0x20#6 rs rt imm
  | .lh rt rs imm => encodeI 0x21#6 rs rt imm
  | .lw rt rs imm => encodeI 0x23#6 rs rt imm
  | .lbu rt rs imm => encodeI 0x24#6 rs rt imm
  | .lhu rt rs imm => encodeI 0x25#6 rs rt imm
  | .ll rt rs imm => encodeI 0x30#6 rs rt imm
  | .sb rt rs imm => encodeI 0x28#6 rs rt imm
  | .sh rt rs imm => encodeI 0x29#6 rs rt imm
  | .sw rt rs imm => encodeI 0x2b#6 rs rt imm
  | .sc rt rs imm => encodeI 0x38#6 rs rt imm
  | .addi rt rs imm => encodeI 0x08#6 rs rt imm
  | .addiu rt rs imm => encodeI 0x09#6 rs rt imm
  | .slti rt rs imm => encodeI 0x0a#6 rs rt imm
  | .sltiu rt rs imm => encodeI 0x0b#6 rs rt imm
  | .andi rt rs imm => encodeI 0x0c#6 rs rt imm
  | .ori rt rs imm => encodeI 0x0d#6 rs rt imm
  | .xori rt rs imm => encodeI 0x0e#6 rs rt imm
  | .lui rt imm => encodeI 0x0f#6 0#5 rt imm
  | .sll rd rt shamt => encodeR 0x00#6 0#5 rt rd shamt 0x00#6
  | .srl rd rt shamt => encodeR 0x00#6 0#5 rt rd shamt 0x02#6
  | .sra rd rt shamt => encodeR 0x00#6 0#5 rt rd shamt 0x03#6
  | .sllv rd rt rs => encodeR 0x00#6 rs rt rd 0#5 0x04#6
  | .srlv rd rt rs => encodeR 0x00#6 rs rt rd 0#5 0x06#6
  | .srav rd rt rs => encodeR 0x00#6 rs rt rd 0#5 0x07#6
  | .add rd rs rt => encodeR 0x00#6 rs rt rd 0#5 0x20#6
  | .addu rd rs rt => encodeR 0x00#6 rs rt rd 0#5 0x21#6
  | .sub rd rs rt => encodeR 0x00#6 rs rt rd 0#5 0x22#6
  | .subu rd rs rt => encodeR 0x00#6 rs rt rd 0#5 0x23#6
  | .and rd rs rt => encodeR 0x00#6 rs rt rd 0#5 0x24#6
  | .or rd rs rt => encodeR 0x00#6 rs rt rd 0#5 0x25#6
  | .xor rd rs rt => encodeR 0x00#6 rs rt rd 0#5 0x26#6
  | .nor rd rs rt => encodeR 0x00#6 rs rt rd 0#5 0x27#6
  | .slt rd rs rt => encodeR 0x00#6 rs rt rd 0#5 0x2a#6
  | .sltu rd rs rt => encodeR 0x00#6 rs rt rd 0#5 0x2b#6
  | .mfhi rd => encodeR 0x00#6 0#5 0#5 rd 0#5 0x10#6
  | .mthi rs => encodeR 0x00#6 rs 0#5 0#5 0#5 0x11#6
  | .mflo rd => encodeR 0x00#6 0#5 0#5 rd 0#5 0x12#6
  | .mtlo rs => encodeR 0x00#6 rs 0#5 0#5 0#5 0x13#6
  | .mult rs rt => encodeR 0x00#6 rs rt 0#5 0#5 0x18#6
  | .multu rs rt => encodeR 0x00#6 rs rt 0#5 0#5 0x19#6
  | .div rs rt => encodeR 0x00#6 rs rt 0#5 0#5 0x1a#6
  | .divu rs rt => encodeR 0x00#6 rs rt 0#5 0#5 0x1b#6
  | .j target => encodeJ 0x02#6 target
  | .jal target => encodeJ 0x03#6 target
  | .jr rs => encodeR 0x00#6 rs 0#5 0#5 0#5 0x08#6
  | .jalr rd rs => encodeR 0x00#6 rs 0#5 rd 0#5 0x09#6
  | .beq rs rt imm => encodeI 0x04#6 rs rt imm
  | .bne rs rt imm => encodeI 0x05#6 rs rt imm
  | .blez rs imm => encodeI 0x06#6 rs 0#5 imm
  | .bgtz rs imm => encodeI 0x07#6 rs 0#5 imm
  | .bltz rs imm => encodeI 0x01#6 rs 0#5 imm
  | .bgez rs imm => encodeI 0x01#6 rs 1#5 imm
  | .mfc0 rt rd => encodeR 0x10#6 0x00#5 rt rd 0#5 0#6
  | .mtc0 rt rd => encodeR 0x10#6 0x04#5 rt rd 0#5 0#6
  | .eret => encodeCo 0x10#6 0x0000018#25
  | .mfc2 rt rd => encodeR 0x12#6 0x00#5 rt rd 0#5 0#6
  | .mtc2 rt rd => encodeR 0x12#6 0x04#5 rt rd 0#5 0#6
  | .cfc2 rt rd => encodeR 0x12#6 0x02#5 rt rd 0#5 0#6
  | .ctc2 rt rd => encodeR 0x12#6 0x06#5 rt rd 0#5 0#6
  | .lwc2 rt rs imm => encodeI 0x32#6 rs rt imm
  | .swc2 rt rs imm => encodeI 0x3a#6 rs rt imm
  | .cop2 copfunc => encodeCo 0x12#6 copfunc
  | .syscall code => encodeCode code 0x0c#6
  | .brk code => encodeCode code 0x0d#6
  | .sync => encodeCode 0#20 0x0f#6

/-! ## The opcode table -/

/-- A row of the opcode table (R125): a word `w` is the instruction when `w &&& mask = pattern`. `variant` is the
smallest variant that contains it; the Coprocessor 2 rows are in none. -/
structure Row where
  mnemonic : String
  pattern : Word
  mask : Word
  variant : Option Variant
deriving DecidableEq, Repr

/-- The row of an instruction: its mnemonic, `match`, `mask` and variant as R125 prints them. -/
def Instr.row : Instr → Row
  | .lb _ _ _ => ⟨"LB", 0x80000000#32, 0xfc000000#32, some .v3⟩
  | .lh _ _ _ => ⟨"LH", 0x84000000#32, 0xfc000000#32, some .v3⟩
  | .lw _ _ _ => ⟨"LW", 0x8c000000#32, 0xfc000000#32, some .v1⟩
  | .lbu _ _ _ => ⟨"LBU", 0x90000000#32, 0xfc000000#32, some .v3⟩
  | .lhu _ _ _ => ⟨"LHU", 0x94000000#32, 0xfc000000#32, some .v3⟩
  | .ll _ _ _ => ⟨"LL", 0xc0000000#32, 0xfc000000#32, some .v3⟩
  | .sb _ _ _ => ⟨"SB", 0xa0000000#32, 0xfc000000#32, some .v3⟩
  | .sh _ _ _ => ⟨"SH", 0xa4000000#32, 0xfc000000#32, some .v3⟩
  | .sw _ _ _ => ⟨"SW", 0xac000000#32, 0xfc000000#32, some .v1⟩
  | .sc _ _ _ => ⟨"SC", 0xe0000000#32, 0xfc000000#32, some .v3⟩
  | .addi _ _ _ => ⟨"ADDI", 0x20000000#32, 0xfc000000#32, some .v3⟩
  | .addiu _ _ _ => ⟨"ADDIU", 0x24000000#32, 0xfc000000#32, some .v1⟩
  | .slti _ _ _ => ⟨"SLTI", 0x28000000#32, 0xfc000000#32, some .v2⟩
  | .sltiu _ _ _ => ⟨"SLTIU", 0x2c000000#32, 0xfc000000#32, some .v2⟩
  | .andi _ _ _ => ⟨"ANDI", 0x30000000#32, 0xfc000000#32, some .v2⟩
  | .ori _ _ _ => ⟨"ORI", 0x34000000#32, 0xfc000000#32, some .v2⟩
  | .xori _ _ _ => ⟨"XORI", 0x38000000#32, 0xfc000000#32, some .v2⟩
  | .lui _ _ => ⟨"LUI", 0x3c000000#32, 0xffe00000#32, some .v2⟩
  | .sll _ _ _ => ⟨"SLL", 0x00000000#32, 0xffe0003f#32, some .v2⟩
  | .srl _ _ _ => ⟨"SRL", 0x00000002#32, 0xffe0003f#32, some .v2⟩
  | .sra _ _ _ => ⟨"SRA", 0x00000003#32, 0xffe0003f#32, some .v2⟩
  | .sllv _ _ _ => ⟨"SLLV", 0x00000004#32, 0xfc0007ff#32, some .v2⟩
  | .srlv _ _ _ => ⟨"SRLV", 0x00000006#32, 0xfc0007ff#32, some .v2⟩
  | .srav _ _ _ => ⟨"SRAV", 0x00000007#32, 0xfc0007ff#32, some .v2⟩
  | .add _ _ _ => ⟨"ADD", 0x00000020#32, 0xfc0007ff#32, some .v3⟩
  | .addu _ _ _ => ⟨"ADDU", 0x00000021#32, 0xfc0007ff#32, some .v2⟩
  | .sub _ _ _ => ⟨"SUB", 0x00000022#32, 0xfc0007ff#32, some .v3⟩
  | .subu _ _ _ => ⟨"SUBU", 0x00000023#32, 0xfc0007ff#32, some .v2⟩
  | .and _ _ _ => ⟨"AND", 0x00000024#32, 0xfc0007ff#32, some .v2⟩
  | .or _ _ _ => ⟨"OR", 0x00000025#32, 0xfc0007ff#32, some .v2⟩
  | .xor _ _ _ => ⟨"XOR", 0x00000026#32, 0xfc0007ff#32, some .v2⟩
  | .nor _ _ _ => ⟨"NOR", 0x00000027#32, 0xfc0007ff#32, some .v2⟩
  | .slt _ _ _ => ⟨"SLT", 0x0000002a#32, 0xfc0007ff#32, some .v2⟩
  | .sltu _ _ _ => ⟨"SLTU", 0x0000002b#32, 0xfc0007ff#32, some .v2⟩
  | .mfhi _ => ⟨"MFHI", 0x00000010#32, 0xffff07ff#32, some .v3⟩
  | .mthi _ => ⟨"MTHI", 0x00000011#32, 0xfc1fffff#32, some .v3⟩
  | .mflo _ => ⟨"MFLO", 0x00000012#32, 0xffff07ff#32, some .v3⟩
  | .mtlo _ => ⟨"MTLO", 0x00000013#32, 0xfc1fffff#32, some .v3⟩
  | .mult _ _ => ⟨"MULT", 0x00000018#32, 0xfc00ffff#32, some .v3⟩
  | .multu _ _ => ⟨"MULTU", 0x00000019#32, 0xfc00ffff#32, some .v3⟩
  | .div _ _ => ⟨"DIV", 0x0000001a#32, 0xfc00ffff#32, some .v3⟩
  | .divu _ _ => ⟨"DIVU", 0x0000001b#32, 0xfc00ffff#32, some .v3⟩
  | .j _ => ⟨"J", 0x08000000#32, 0xfc000000#32, some .v2⟩
  | .jal _ => ⟨"JAL", 0x0c000000#32, 0xfc000000#32, some .v2⟩
  | .jr _ => ⟨"JR", 0x00000008#32, 0xfc1fffff#32, some .v2⟩
  | .jalr _ _ => ⟨"JALR", 0x00000009#32, 0xfc1f07ff#32, some .v2⟩
  | .beq _ _ _ => ⟨"BEQ", 0x10000000#32, 0xfc000000#32, some .v2⟩
  | .bne _ _ _ => ⟨"BNE", 0x14000000#32, 0xfc000000#32, some .v1⟩
  | .blez _ _ => ⟨"BLEZ", 0x18000000#32, 0xfc1f0000#32, some .v2⟩
  | .bgtz _ _ => ⟨"BGTZ", 0x1c000000#32, 0xfc1f0000#32, some .v2⟩
  | .bltz _ _ => ⟨"BLTZ", 0x04000000#32, 0xfc1f0000#32, some .v2⟩
  | .bgez _ _ => ⟨"BGEZ", 0x04010000#32, 0xfc1f0000#32, some .v2⟩
  | .mfc0 _ _ => ⟨"MFC0", 0x40000000#32, 0xffe007ff#32, some .v2⟩
  | .mtc0 _ _ => ⟨"MTC0", 0x40800000#32, 0xffe007ff#32, some .v1⟩
  | .eret => ⟨"ERET", 0x42000018#32, 0xffffffff#32, some .v3⟩
  | .mfc2 _ _ => ⟨"MFC2", 0x48000000#32, 0xffe007ff#32, none⟩
  | .mtc2 _ _ => ⟨"MTC2", 0x48800000#32, 0xffe007ff#32, none⟩
  | .cfc2 _ _ => ⟨"CFC2", 0x48400000#32, 0xffe007ff#32, none⟩
  | .ctc2 _ _ => ⟨"CTC2", 0x48c00000#32, 0xffe007ff#32, none⟩
  | .lwc2 _ _ _ => ⟨"LWC2", 0xc8000000#32, 0xfc000000#32, none⟩
  | .swc2 _ _ _ => ⟨"SWC2", 0xe8000000#32, 0xfc000000#32, none⟩
  | .cop2 _ => ⟨"COP2", 0x4a000000#32, 0xfe000000#32, none⟩
  | .syscall _ => ⟨"SYSCALL", 0x0000000c#32, 0xfc00003f#32, some .v3⟩
  | .brk _ => ⟨"BREAK", 0x0000000d#32, 0xfc00003f#32, some .v3⟩
  | .sync => ⟨"SYNC", 0x0000000f#32, 0xffffffff#32, some .v3⟩

/-- The 65 rows of R125, in the table's order. -/
def opcodeTable : List Row :=
  [(Instr.lb 0 0 0).row, (Instr.lh 0 0 0).row, (Instr.lw 0 0 0).row, (Instr.lbu 0 0 0).row, (Instr.lhu 0 0
   0).row, (Instr.ll 0 0 0).row, (Instr.sb 0 0 0).row, (Instr.sh 0 0 0).row, (Instr.sw 0 0 0).row, (Instr.sc 0 0
   0).row, (Instr.addi 0 0 0).row, (Instr.addiu 0 0 0).row, (Instr.slti 0 0 0).row, (Instr.sltiu 0 0 0).row,
   (Instr.andi 0 0 0).row, (Instr.ori 0 0 0).row, (Instr.xori 0 0 0).row] ++
  [(Instr.lui 0 0).row, (Instr.sll 0 0 0).row, (Instr.srl 0 0 0).row, (Instr.sra 0 0 0).row, (Instr.sllv 0 0
   0).row, (Instr.srlv 0 0 0).row, (Instr.srav 0 0 0).row, (Instr.add 0 0 0).row, (Instr.addu 0 0 0).row,
   (Instr.sub 0 0 0).row, (Instr.subu 0 0 0).row, (Instr.and 0 0 0).row, (Instr.or 0 0 0).row, (Instr.xor 0 0
   0).row, (Instr.nor 0 0 0).row, (Instr.slt 0 0 0).row, (Instr.sltu 0 0 0).row] ++
  [(Instr.mfhi 0).row, (Instr.mthi 0).row, (Instr.mflo 0).row, (Instr.mtlo 0).row, (Instr.mult 0 0).row,
   (Instr.multu 0 0).row, (Instr.div 0 0).row, (Instr.divu 0 0).row, (Instr.j 0).row, (Instr.jal 0).row,
   (Instr.jr 0).row, (Instr.jalr 0 0).row, (Instr.beq 0 0 0).row, (Instr.bne 0 0 0).row, (Instr.blez 0 0).row,
   (Instr.bgtz 0 0).row, (Instr.bltz 0 0).row] ++
  [(Instr.bgez 0 0).row, (Instr.mfc0 0 0).row, (Instr.mtc0 0 0).row, (Instr.eret).row, (Instr.mfc2 0 0).row,
   (Instr.mtc2 0 0).row, (Instr.cfc2 0 0).row, (Instr.ctc2 0 0).row, (Instr.lwc2 0 0 0).row, (Instr.swc2 0 0
   0).row, (Instr.cop2 0).row, (Instr.syscall 0).row, (Instr.brk 0).row, (Instr.sync).row]

end Sys2Proof
end

