-- ==== Sys2Proof/Machine/Flags.lean ====
section
/-! DEFINITION. SMIPS has no status flags or condition codes (10_state.md R28). What takes their place: the signed
overflow tests that decide the Ov exception, the comparisons that write 0 or 1 to a register or decide a branch, and
the exact results of multiply and divide. -/

namespace Sys2Proof.Machine

/-- The overflow test of ADD and ADDI: equal signs in, another sign out (R171, R197). -/
def addOverflows (a b : Word) : Bool := a.msb == b.msb && (a + b).msb != a.msb

/-- The overflow test of SUB: different signs in, and the difference has not the sign of the minuend (R199). -/
def subOverflows (a b : Word) : Bool := a.msb != b.msb && (a - b).msb != a.msb

/-- The word a comparison writes: 1 for true, 0 for false (R205). -/
def boolWord (b : Bool) : Word := if b then 1#32 else 0#32

/-- Signed less than (R173, R205). -/
def lessSigned (a b : Word) : Bool := decide (a.toInt < b.toInt)

/-- Unsigned less than (R174, R206). -/
def lessUnsigned (a b : Word) : Bool := decide (a.toNat < b.toNat)

/-- The 64-bit product of two signed words (43_multiply_divide.md R225). -/
def productSigned (a b : Word) : BitVec 64 := BitVec.ofInt 64 (a.toInt * b.toInt)

/-- The 64-bit product of two unsigned words (R226). -/
def productUnsigned (a b : Word) : BitVec 64 := BitVec.ofNat 64 (a.toNat * b.toNat)

/-- The upper half of a product, which goes to `hi` (R225; 92_eei_decisions.md D14, log 15). -/
def upperHalf (p : BitVec 64) : Word := p.extractLsb' 32 32

/-- The lower half of a product, which goes to `lo` (R225). -/
def lowerHalf (p : BitVec 64) : Word := p.extractLsb' 0 32

/-- The operands of DIV for which the source states no result: a zero divisor, and -2^31 by -1 (R229). -/
def divUnstated (n d : Word) : Bool := d == 0#32 || (n.toInt == -2147483648 && d.toInt == -1)

/-- The operands of DIVU for which the source states no result: a zero divisor (R229). -/
def divuUnstated (d : Word) : Bool := d == 0#32

/-- The signed quotient, rounded toward zero (R227; 92_eei_decisions.md D13, log 15). -/
def quotientSigned (n d : Word) : Word := BitVec.ofInt 32 (Int.tdiv n.toInt d.toInt)

/-- The signed remainder, `n - q * d` (R227). -/
def remainderSigned (n d : Word) : Word := BitVec.ofInt 32 (n.toInt - Int.tdiv n.toInt d.toInt * d.toInt)

/-- The unsigned quotient (R228). -/
def quotientUnsigned (n d : Word) : Word := BitVec.ofNat 32 (n.toNat / d.toNat)

/-- The unsigned remainder (R228). -/
def remainderUnsigned (n d : Word) : Word := BitVec.ofNat 32 (n.toNat % d.toNat)

end Sys2Proof.Machine
end

