-- ==== Sys2Proof/Machine/Operands.lean ====
section
/-! DEFINITION. How an instruction's fields become operands: extension of immediates, effective addresses, jump and
branch targets, shift amounts (30_encoding.md R115 to R118, 40_loads_stores.md R150). All address arithmetic is modulo
2^32 (92_eei_decisions.md D9, log 14). -/

namespace Sys2Proof.Machine

/-- `sext_32(imm)`: every immediate but a logical one (R115). -/
def signExtendImm (imm : Half) : Word := imm.signExtend 32

/-- `zext_32(imm)`: the logical immediates (R115). -/
def zeroExtendImm (imm : Half) : Word := imm.zeroExtend 32

/-- `imm || 0^16`: the operand of LUI (R115, R178). -/
def upperImm (imm : Half) : Word := imm ++ 0#16

/-- The effective address, base register plus sign-extended displacement (R150). -/
def effectiveAddress (base : Word) (imm : Half) : Word := base + signExtendImm imm

/-- The branch target: pc + 4 plus the immediate, sign-extended and shifted left by two (R116). -/
def branchTarget (pc : Word) (imm : Half) : Word := pc + 4#32 + (signExtendImm imm <<< 2)

/-- The jump target: the top four bits of pc + 4, the 26-bit field, and two zeros (R117). -/
def jumpTarget (pc : Word) (target : BitVec 26) : Word := (pc + 4#32).extractLsb' 28 4 ++ (target ++ 0#2)

/-- The amount of a variable shift: the bottom five bits of the register (R118). -/
def shiftAmount (v : Word) : BitVec 5 := v.extractLsb' 0 5

/-- Logical shift left (42_computational_reg.md R191). -/
def shiftLeft (v : Word) (amount : BitVec 5) : Word := v <<< amount.toNat

/-- Logical shift right (R192). -/
def shiftRightLogical (v : Word) (amount : BitVec 5) : Word := v >>> amount.toNat

/-- Arithmetic shift right, shifting in copies of the sign bit (R193). -/
def shiftRightArith (v : Word) (amount : BitVec 5) : Word := v.sshiftRight amount.toNat

end Sys2Proof.Machine
end

