-- ==== Sys2Proof/Machine/State.lean ====
section
/-! DEFINITION. The machine's state: everything 10_state.md R20 gives it, and the model's own fields (marked MODEL) that
make every value and event the spec leaves open plain data. Also the reasons a step can stop, and the state after reset. -/

namespace Sys2Proof.Machine

/-- Physical memory (10_state.md R58): the bytes that something has stored, by physical address, addresses strictly
rising. An unlisted address holds no stored byte; `State.load8` says what a load then reads (log 2). -/
abbrev Memory := List Host.Cell

/-- The fields of `status` (R37). A mode bit is 1 for user mode, an enable bit 1 for enabled. The reserved fields and
CU[3:1] are wired to zero and hold no state (R38, R40). -/
structure Status where
  /-- CU[0], bit 28: coprocessor 0 is usable from user mode. -/
  cu0 : Bool
  /-- IM[7], bit 15: the timer interrupt is enabled. -/
  im7 : Bool
  /-- IM[6], bit 14: the host interrupt is enabled. -/
  im6 : Bool
  /-- IM[5:0], bits 13:8: stored as written, in no rule (R39). -/
  im50 : BitVec 6
  kuo : Bool
  ieo : Bool
  kup : Bool
  iep : Bool
  kuc : Bool
  iec : Bool
deriving DecidableEq, Repr

/-- The fields of `cause` that hold state (R42, R45). -/
structure Cause where
  /-- IP[7], bit 15: a timer interrupt is pending. -/
  ip7 : Bool
  /-- IP[6], bit 14: a host interrupt is pending. -/
  ip6 : Bool
  /-- ExcCode, bits 6:2. -/
  excCode : BitVec 5
deriving DecidableEq, Repr

/-- How wide a memory access is (20_memory.md R83). -/
inductive Width where
  | byte
  | half
  | word
deriving DecidableEq, Repr

/-- What the environment may do at an instruction boundary (60_exceptions.md R300 part E; the agents are those of
10_state.md R20). -/
inductive EnvAction where
  /-- One clock tick (10_state.md R35). -/
  | tick
  /-- `HostWriteFromhost(v)` (R350). -/
  | hostWriteFromhost (v : Byte)
  /-- `HostReadTohost`, which changes nothing (R350). -/
  | hostReadTohost
  /-- `HostSetIP6(b)` (R350). -/
  | hostSetIP6 (b : Bool)
  /-- `ClearLink` (20_memory.md R95). -/
  | clearLink
  /-- Another processor stores the low bytes of `v` to an aligned address of the shared memory (R344, R85; log 5). -/
  | otherStore (width : Width) (addr : Word) (v : Word)
  /-- Another processor's SC writes a word, clearing this processor's link if it is to the same location (R92, R93). -/
  | otherSC (addr : Word) (v : Word)
deriving DecidableEq, Repr

/-- What the outside world does at one instruction boundary (R300): its actions in order, whether the host asserts
reset, and whether the processor lets an enabled pending interrupt wait for a later boundary (R314). -/
structure BoundaryInput where
  actions : List EnvAction
  reset : Bool
  defer : Bool
deriving DecidableEq, Repr

/-- The state of the machine. -/
structure State where
  /-- `x[1]` to `x[31]` (10_state.md R21), register `i` at index `i - 1`; `x[0]` holds no state. -/
  regs : Vector Word 31
  /-- The multiply/divide registers (R24). -/
  hi : Word
  lo : Word
  /-- The address of the instruction to be executed next (R25). -/
  pc : Word
  /-- CP0 register 12 (R37). -/
  status : Status
  /-- CP0 register 13 (R42). -/
  cause : Cause
  /-- CP0 register 14 (R46). -/
  epc : Word
  /-- CP0 register 8 (R47). -/
  badvaddr : Word
  /-- CP0 registers 9 and 11 (R34). -/
  count : Word
  compare : Word
  /-- CP0 registers 20 and 21, eight bits each (R32, R33). -/
  fromhost : Byte
  tohost : Byte
  /-- The hidden link address register of LL and SC (R55). -/
  linkValid : Bool
  linkAddr : Word
  /-- Memory (R58). -/
  mem : Memory
  /-- MODEL: the implementation parameters (00_scope.md R8), which nothing changes (log 7). -/
  params : Params
  /-- MODEL: a code for the state of an attached Coprocessor 2, of which the spec knows nothing (46_cop2.md R280). -/
  c2 : Nat
  /-- MODEL: what the outside world does at the coming boundaries, the next one first (60_exceptions.md R300; log 4). -/
  inputs : List BoundaryInput
  /-- MODEL: once no input is listed, how many more boundaries pass without a clock tick before one with at least one
  (10_state.md R35; 70_reset_and_hazards.md R381; log 4). -/
  clockWait : Nat
  /-- MODEL: how many free values have been drawn (00_scope.md R11, `any32` and `anybit`; log 3). -/
  draws : Nat
  /-- MODEL: how many times reset has been asserted since the start, which selects the free contents of the bytes of
  memory nothing has stored to (70_reset_and_hazards.md R361; log 2). -/
  resets : Nat
deriving DecidableEq, Repr

/-- SMIPS has no state in which the processor stops: every instruction completes or traps, and the source describes no
fault that ends a run (70_reset_and_hazards.md R381, 60_exceptions.md R347; 93_implementation_defined.md: no entry is
treated as `stuck`). So there is no constructor, and no step of the model faults. -/
inductive Fault
deriving DecidableEq, Repr

/-- Why the model may have no meaning for an instruction. -/
inductive Refusal where
  /-- The dispatcher's rejection of an instruction that has no meaning in the model. Safe: nothing can be proved of a
  run that meets it. No arm of the dispatcher uses it: every instruction has its meaning. -/
  | notModelled (mnemonic : String)
  /-- A step of SMIPSv1 or SMIPSv2 meets a word, an address or a CP0 register outside the variant's subset, or would take
  an exception, which those variants do not support: the source does not say what they do, and the spec has the model
  refuse (30_encoding.md R136; 92_eei_decisions.md D23; 93_implementation_defined.md U11). Safe. SMIPSv3 never answers
  it (log 27). -/
  | outsideVariant
deriving DecidableEq, Repr

/-- What an instruction or a step answers. -/
abbrev Result := Host.Outcome State Fault Refusal

/-- The machine right after reset (10_state.md R60, 70_reset_and_hazards.md R360): pc at the reset vector, kernel mode,
interrupts disabled, `tohost` zero. Every other register is one the spec leaves undefined: its zero here is the model's
DESIGN CHOICE (log 1, unsafe). Memory lists nothing (log 2), and no input is listed (log 4). -/
def State.reset : State where
  regs := Vector.replicate 31 0#32
  hi := 0#32
  lo := 0#32
  pc := Config.resetVector
  status :=
    { cu0 := false, im7 := false, im6 := false, im50 := 0#6, kuo := false, ieo := false, kup := false, iep := false,
      kuc := false, iec := false }
  cause := { ip7 := false, ip6 := false, excCode := 0#5 }
  epc := 0#32
  badvaddr := 0#32
  count := 0#32
  compare := 0#32
  fromhost := 0#8
  tohost := 0#8
  linkValid := false
  linkAddr := 0#32
  mem := []
  params := Config.defaults
  c2 := 0
  inputs := []
  clockWait := 1
  draws := 0
  resets := 0

end Sys2Proof.Machine
end

