-- ==== Sys2Proof/Machine/Ops.lean ====
section
/-! DEFINITION. The named operations every meaning is written with: general registers, memory, address checks, free
values, taking an exception and returning from one, the CP0 registers, and the fetch. -/

namespace Sys2Proof.Machine

/-! ## General registers and pc (10_state.md) -/

/-- The register file with register `r` set to `v`; a write to register 0 is discarded (R21). -/
def setReg (regs : Vector Word 31) (r : Reg) (v : Word) : Vector Word 31 :=
  if r = 0#5 then regs else regs.set (r.toNat - 1) v (by have := r.isLt; omega)

/-- `x[r]`: register 0 is hardwired to zero (R21). -/
def State.readReg (s : State) (r : Reg) : Word :=
  if r = 0#5 then 0#32 else s.regs[r.toNat - 1]'(by have := r.isLt; omega)

/-- `x[r] <- v` (R21). -/
def State.writeReg (s : State) (r : Reg) (v : Word) : State := { s with regs := setReg s.regs r v }

/-- `pc <- target` (R26). -/
def State.jumpTo (s : State) (target : Word) : State := { s with pc := target }

/-- `pc <- pc + 4`, how an instruction ends that does not assign pc (R26). -/
def State.advance (s : State) : State := s.jumpTo (s.pc + 4#32)

/-- `hi <- h` and `lo <- l` (R24). -/
def State.writeHiLo (s : State) (h l : Word) : State := { s with hi := h, lo := l }

/-! ## Free values (00_scope.md R11) -/

/-- The next free 32-bit value, `any32`. The instruction that uses it also records the draw. -/
def State.any32 (s : State) : Word := Config.any32 s.draws

/-- The free 32-bit value after the next, for an instruction that draws two. -/
def State.any32' (s : State) : Word := Config.any32 (s.draws + 1)

/-- The next free bit, `anybit`. -/
def State.anyBit (s : State) : Bool := Config.anyBit s.draws

/-- Six free bits, one `anybit` each (10_state.md R45, R50). -/
def State.anySix (s : State) : BitVec 6 := s.any32.extractLsb' 0 6

/-- Records that `n` free values have been drawn, so that the next draw is another one. -/
def State.drawn (s : State) (n : Nat) : State := { s with draws := s.draws + n }

/-! ## Memory (20_memory.md) -/

/-- The byte stored at a physical address, if any has been. -/
def Memory.lookup : Memory → Nat → Option Byte
  | [], _ => none
  | (k, b) :: rest, a => if a = k then some b else Memory.lookup rest a

/-- Stores a byte at a physical address, keeping the addresses strictly rising. -/
def Memory.insert : Memory → Nat → Byte → Memory
  | [], a, b => [(a, b)]
  | (k, c) :: rest, a, b =>
    if a < k then (a, b) :: (k, c) :: rest
    else if a = k then (a, b) :: rest
    else (k, c) :: Memory.insert rest a b

/-- The canonical form of memory: addresses strictly rising, so no address twice. What an unlisted address reads as is
no stored byte (`lookup` answers `none`), so no entry equals it. -/
abbrev Memory.wf (m : Memory) : Prop := m.Pairwise fun p q => p.1 < q.1

/-- The physical address of a virtual one: its low `PA_BITS` bits; there is no translation (R71). -/
def State.physical (s : State) (a : Word) : Nat := a.toNat % 2 ^ s.params.paBits

/-- The byte at an address: the one last stored there, else the free value that byte has held since reset (R60, R85). -/
def State.load8 (s : State) (a : Word) : Byte :=
  (s.mem.lookup (s.physical a)).getD (Config.memInit s.resets (s.physical a))

/-- `MemRead(a, 2)`: the byte at the lower address is the more significant (R72). -/
def State.load16 (s : State) (a : Word) : Half := s.load8 a ++ s.load8 (a + 1#32)

/-- `MemRead(a, 4)` (R72). -/
def State.load32 (s : State) (a : Word) : Word :=
  wordOfBytes (s.load8 a) (s.load8 (a + 1#32)) (s.load8 (a + 2#32)) (s.load8 (a + 3#32))

/-- `MemWrite(a, 1, b)` (R73). -/
def State.store8 (s : State) (a : Word) (b : Byte) : State := { s with mem := s.mem.insert (s.physical a) b }

/-- `MemWrite(a, 2, v)` (R73). -/
def State.store16 (s : State) (a : Word) (v : Half) : State :=
  (s.store8 a (v.extractLsb' 8 8)).store8 (a + 1#32) (v.extractLsb' 0 8)

/-- `MemWrite(a, 4, v)` (R73). -/
def State.store32 (s : State) (a : Word) (v : Word) : State :=
  (((s.store8 a (v.extractLsb' 24 8)).store8 (a + 1#32) (v.extractLsb' 16 8)).store8 (a + 2#32)
    (v.extractLsb' 8 8)).store8 (a + 3#32) (v.extractLsb' 0 8)

/-! ## The KU/IE stack (10_state.md R41) -/

/-- `PushKUIE`: previous to old, current to previous, and kernel mode with interrupts disabled. -/
def Status.push (st : Status) : Status :=
  { st with kuo := st.kup, ieo := st.iep, kup := st.kuc, iep := st.iec, kuc := false, iec := false }

/-- `PopKUIE`: previous to current, old to previous, and old unchanged. -/
def Status.pop (st : Status) : Status :=
  { st with kuc := st.kup, iec := st.iep, kup := st.kuo, iep := st.ieo }

/-- `KernelMode`: KUc is 0 (60_exceptions.md R340). -/
def State.kernelMode (s : State) : Bool := !s.status.kuc

/-! ## Exceptions (60_exceptions.md) -/

/-- The exceptions and interrupts of R305; an address error on a load or store carries the faulting address. -/
inductive Exc where
  | hint
  | tint
  | adEL (addr : Word)
  | adES (addr : Word)
  | adEF
  | sys
  | bp
  | ri
  | ov
deriving DecidableEq, Repr

/-- ExcCode (10_state.md R43). -/
def Exc.code : Exc → BitVec 5
  | .hint => 0#5
  | .tint => 2#5
  | .adEL _ => 4#5
  | .adES _ => 5#5
  | .adEF => 6#5
  | .sys => 8#5
  | .bp => 9#5
  | .ri => 10#5
  | .ov => 12#5

/-- What trap entry writes to `badvaddr`: the effective address for AdEL and AdES, else the given free value (R305;
10_state.md R47). -/
def Exc.badvaddr (e : Exc) (free : Word) : Word :=
  match e with
  | .adEL addr => addr
  | .adES addr => addr
  | _ => free

/-- Trap entry, the same for every exception and every interrupt (R320). `epc` gets pc: the address of the raising
instruction, or for an interrupt that of the instruction not yet executed (R321). -/
def State.trapEntry (s : State) (e : Exc) : State :=
  { s with
    epc := s.pc
    cause := { s.cause with excCode := e.code }
    badvaddr := e.badvaddr s.any32
    status := s.status.push
    linkValid := false
    pc := Config.exceptionVector
    draws := s.draws + 1 }

/-- `raise E`: the instruction is abandoned with no state written by it, and the trap is taken (00_scope.md R11). -/
def State.raise (s : State) (e : Exc) : Result := .next (s.trapEntry e)

/-- The return from an exception: pc gets `epc`, and the KU/IE stack is popped (R325; 45_cop0.md R262). -/
def State.returnFromException (s : State) : State := { s with pc := s.epc, status := s.status.pop }

/-! ## Address checks (20_memory.md) -/

/-- An access of `n` bytes at an address is misaligned, or is user mode's to the kernel-only segment (R78, R80). -/
def State.addressError (s : State) (addr : Word) (n : Nat) : Bool :=
  addr.toNat % n != 0 || (s.status.kuc && !addr.msb)

/-- `CheckData(addr, n, load)` before the rest of a load (R78, 40_loads_stores.md R161). -/
def State.checkLoad (s : State) (addr : Word) (n : Nat) (done : State) : Result :=
  if s.addressError addr n then s.raise (.adEL addr) else .next done

/-- `CheckData(addr, n, store)` before the rest of a store (R78, 40_loads_stores.md R161). -/
def State.checkStore (s : State) (addr : Word) (n : Nat) (done : State) : Result :=
  if s.addressError addr n then s.raise (.adES addr) else .next done

/-- `Fetch`: the word at pc, or nothing where the fetch raises AdEF (R75, R80). -/
def State.fetch (s : State) : Option Word := if s.addressError s.pc 4 then none else some (s.load32 s.pc)

/-! ## CP0 registers (10_state.md) -/

/-- A COP0 instruction in user mode with CU0 clear is refused (R31; 45_cop0.md R263). -/
def State.cop0Refused (s : State) : Bool := !s.kernelMode && !s.status.cu0

/-- The layout of `status` (R37), with what IM[5:0] reads as given. -/
def statusWord (st : Status) (im50 : BitVec 6) : Word :=
  0#3 ++ (BitVec.ofBool st.cu0 ++ (0#12 ++ (BitVec.ofBool st.im7 ++ (BitVec.ofBool st.im6 ++ (im50 ++ (0#2 ++
    (BitVec.ofBool st.kuo ++ (BitVec.ofBool st.ieo ++ (BitVec.ofBool st.kup ++ (BitVec.ofBool st.iep ++
      (BitVec.ofBool st.kuc ++ BitVec.ofBool st.iec)))))))))))

/-- The layout of `cause` (R42), with what IP[5:0] reads as given. -/
def causeWord (c : Cause) (ip50 : BitVec 6) : Word :=
  0#16 ++ (BitVec.ofBool c.ip7 ++ (BitVec.ofBool c.ip6 ++ (ip50 ++ (0#1 ++ (c.excCode ++ 0#2)))))

/-- `CP0Read(n)` (R50). IM[5:0] reads as a free bit where a one was last written (R39), IP[5:0] as six free bits (R45),
an unused register as a free word (R48). -/
def State.cp0Read (s : State) (n : Reg) : Word :=
  match n with
  | 8#5 => s.badvaddr
  | 9#5 => s.count
  | 11#5 => s.compare
  | 12#5 => statusWord s.status (s.status.im50 &&& s.anySix)
  | 13#5 => causeWord s.cause s.anySix
  | 14#5 => s.epc
  | 20#5 => s.fromhost.zeroExtend 32
  | 21#5 => s.tohost.zeroExtend 32
  | _ => s.any32

/-- The fields of `status` that a written word sets (R51). -/
def statusOfWord (v : Word) : Status where
  cu0 := v.getLsbD 28
  im7 := v.getLsbD 15
  im6 := v.getLsbD 14
  im50 := v.extractLsb' 8 6
  kuo := v.getLsbD 5
  ieo := v.getLsbD 4
  kup := v.getLsbD 3
  iep := v.getLsbD 2
  kuc := v.getLsbD 1
  iec := v.getLsbD 0

/-- `CP0Write(n, v)` (R51): a write of `compare` also clears IP7; a write to a read-only or unused register does
nothing. -/
def State.cp0Write (s : State) (n : Reg) (v : Word) : State :=
  match n with
  | 9#5 => { s with count := v }
  | 11#5 => { s with compare := v, cause := { s.cause with ip7 := false } }
  | 12#5 => { s with status := statusOfWord v }
  | 21#5 => { s with tohost := v.extractLsb' 0 8 }
  | _ => s

/-! ## Coprocessor 2 (46_cop2.md) -/

/-- A Coprocessor 2 instruction raises RI: no coprocessor is attached (R280), or user mode may not use it (R288). R288
leaves usability open in both modes: that kernel mode always may use it is the model's DESIGN CHOICE, as is RI for the
user mode that may not (log 8). -/
def State.cop2Refused (s : State) : Bool := !s.params.hasCop2 || (!s.kernelMode && !Config.c2UserUsable)

/-- The state of the coprocessor after an instruction. -/
def State.writeC2 (s : State) (c2 : Nat) : State := { s with c2 := c2 }

/-- What a COP2 operation does: the coprocessor's new state, then the registers and the bytes it writes (R287). -/
def State.applyCop2 (s : State) (e : Cop2Effect) : State :=
  e.bytes.foldl (fun t p => t.store8 p.1 p.2) (e.regs.foldl (fun t p => t.writeReg p.1 p.2) (s.writeC2 e.c2))

end Sys2Proof.Machine
end

