-- ==== Sys2Proof/Machine/Branch.lean ====
section
/-! DEFINITION. The jump and branch instructions (44_jumps_branches.md). There is no delay slot (R240), and a bad target
is detected at its fetch, not here. -/

namespace Sys2Proof.Machine

/-- The end of a branch: the target if it is taken, else pc + 4 (R240). -/
def State.branch (s : State) (taken : Bool) (imm : Half) : Result :=
  .next (if taken then s.jumpTo (branchTarget s.pc imm) else s.advance)

/-- J (R241). -/
def execJ (target : BitVec 26) (s : State) : Result := .next (s.jumpTo (jumpTarget s.pc target))

/-- JAL (R242): the link register is r31. -/
def execJal (target : BitVec 26) (s : State) : Result :=
  .next ((s.writeReg 31#5 (s.pc + 4#32)).jumpTo (jumpTarget s.pc target))

/-- JR (R243). -/
def execJr (rs : Reg) (s : State) : Result := .next (s.jumpTo (s.readReg rs))

/-- JALR (R244): the target is read before the link is written. -/
def execJalr (rd rs : Reg) (s : State) : Result :=
  .next ((s.writeReg rd (s.pc + 4#32)).jumpTo (s.readReg rs))

/-- BEQ (R245). -/
def execBeq (rs rt : Reg) (imm : Half) (s : State) : Result := s.branch (s.readReg rs == s.readReg rt) imm

/-- BNE (R246). -/
def execBne (rs rt : Reg) (imm : Half) (s : State) : Result := s.branch (s.readReg rs != s.readReg rt) imm

/-- BLEZ (R247). -/
def execBlez (rs : Reg) (imm : Half) (s : State) : Result := s.branch (decide ((s.readReg rs).toInt ≤ 0)) imm

/-- BGTZ (R248). -/
def execBgtz (rs : Reg) (imm : Half) (s : State) : Result := s.branch (decide (0 < (s.readReg rs).toInt)) imm

/-- BLTZ (R249): the sign bit is set. -/
def execBltz (rs : Reg) (imm : Half) (s : State) : Result := s.branch (s.readReg rs).msb imm

/-- BGEZ (R250): the sign bit is clear. -/
def execBgez (rs : Reg) (imm : Half) (s : State) : Result := s.branch (!(s.readReg rs).msb) imm

end Sys2Proof.Machine
end

