-- ==== Sys2Proof/Machine/Cop0.lean ====
section
/-! DEFINITION. The system coprocessor instructions (45_cop0.md). Each is refused with RI in user mode when CU0 is clear
(R263; 92_eei_decisions.md D4, log 9). -/

namespace Sys2Proof.Machine

/-- MFC0 (R260). A read changes no CP0 register. -/
def execMfc0 (rt rd : Reg) (s : State) : Result :=
  if s.cop0Refused then s.raise .ri else .next ((s.writeReg rt (s.cp0Read rd)).drawn 1).advance

/-- MTC0 (R261). -/
def execMtc0 (rt rd : Reg) (s : State) : Result :=
  if s.cop0Refused then s.raise .ri else .next (s.cp0Write rd (s.readReg rt)).advance

/-- ERET (R262). -/
def execEret (s : State) : Result := if s.cop0Refused then s.raise .ri else .next s.returnFromException

end Sys2Proof.Machine
end

