-- ==== Sys2Proof/Machine/LoadStore.lean ====
section
/-! DEFINITION. The load and store instructions (40_loads_stores.md). -/

namespace Sys2Proof.Machine

/-- The effective address of a load or store (R150). -/
def State.address (s : State) (rs : Reg) (imm : Half) : Word := effectiveAddress (s.readReg rs) imm

/-- The end of a load: `x[rt] <- v` and pc + 4. -/
def State.loaded (s : State) (rt : Reg) (v : Word) : State := (s.writeReg rt v).advance

/-- LB (R151). -/
def execLb (rt rs : Reg) (imm : Half) (s : State) : Result :=
  let a := s.address rs imm
  s.checkLoad a 1 (s.loaded rt ((s.load8 a).signExtend 32))

/-- LH (R152). -/
def execLh (rt rs : Reg) (imm : Half) (s : State) : Result :=
  let a := s.address rs imm
  s.checkLoad a 2 (s.loaded rt ((s.load16 a).signExtend 32))

/-- LW (R153). -/
def execLw (rt rs : Reg) (imm : Half) (s : State) : Result :=
  let a := s.address rs imm
  s.checkLoad a 4 (s.loaded rt (s.load32 a))

/-- LBU (R154). -/
def execLbu (rt rs : Reg) (imm : Half) (s : State) : Result :=
  let a := s.address rs imm
  s.checkLoad a 1 (s.loaded rt ((s.load8 a).zeroExtend 32))

/-- LHU (R155). -/
def execLhu (rt rs : Reg) (imm : Half) (s : State) : Result :=
  let a := s.address rs imm
  s.checkLoad a 2 (s.loaded rt ((s.load16 a).zeroExtend 32))

/-- LL (R156): a word load that also sets the link address register. -/
def execLl (rt rs : Reg) (imm : Half) (s : State) : Result :=
  let a := s.address rs imm
  s.checkLoad a 4 { s.loaded rt (s.load32 a) with linkValid := true, linkAddr := a }

/-- SB (R157). -/
def execSb (rt rs : Reg) (imm : Half) (s : State) : Result :=
  let a := s.address rs imm
  s.checkStore a 1 (s.store8 a ((s.readReg rt).extractLsb' 0 8)).advance

/-- SH (R158). -/
def execSh (rt rs : Reg) (imm : Half) (s : State) : Result :=
  let a := s.address rs imm
  s.checkStore a 2 (s.store16 a ((s.readReg rt).extractLsb' 0 16)).advance

/-- SW (R159). -/
def execSw (rt rs : Reg) (imm : Half) (s : State) : Result :=
  let a := s.address rs imm
  s.checkStore a 4 (s.store32 a (s.readReg rt)).advance

/-- SC (R160): stores and writes 1 if the link is valid, else writes 0; the link is a free bit afterwards (R93). -/
def execSc (rt rs : Reg) (imm : Half) (s : State) : Result :=
  let a := s.address rs imm
  let t := if s.linkValid then (s.store32 a (s.readReg rt)).writeReg rt 1#32 else s.writeReg rt 0#32
  s.checkStore a 4 { (t.drawn 1).advance with linkValid := s.anyBit }

end Sys2Proof.Machine
end

