-- ==== Sys2Proof/Machine/Cop2.lean ====
section
/-! DEFINITION. The Coprocessor 2 instructions (46_cop2.md). Without the coprocessor each raises RI (R280); with it,
what the source leaves to the coprocessor is a free value (93_implementation_defined.md U5, log 8). -/

namespace Sys2Proof.Machine

/-- MFC2 (R281). -/
def execMfc2 (rt rd : Reg) (s : State) : Result :=
  if s.cop2Refused then s.raise .ri
  else .next ((s.writeReg rt (Config.c2Read s.c2 rd)).writeC2 (Config.c2AfterRead s.c2 rd)).advance

/-- MTC2 (R282). -/
def execMtc2 (rt rd : Reg) (s : State) : Result :=
  if s.cop2Refused then s.raise .ri else .next (s.writeC2 (Config.c2Write s.c2 rd (s.readReg rt))).advance

/-- CFC2 (R283). -/
def execCfc2 (rt rd : Reg) (s : State) : Result :=
  if s.cop2Refused then s.raise .ri
  else .next ((s.writeReg rt (Config.c2ReadCtl s.c2 rd)).writeC2 (Config.c2AfterReadCtl s.c2 rd)).advance

/-- CTC2 (R284). -/
def execCtc2 (rt rd : Reg) (s : State) : Result :=
  if s.cop2Refused then s.raise .ri else .next (s.writeC2 (Config.c2WriteCtl s.c2 rd (s.readReg rt))).advance

/-- LWC2 (R285): the address check of LW, and the loaded word goes to the coprocessor. -/
def execLwc2 (rt rs : Reg) (imm : Half) (s : State) : Result :=
  let a := s.address rs imm
  if s.cop2Refused then s.raise .ri
  else s.checkLoad a 4 (s.writeC2 (Config.c2LoadTarget s.c2 rt (s.load32 a))).advance

/-- SWC2 (R286): the address check of SW, and the word stored comes from the coprocessor. -/
def execSwc2 (rt rs : Reg) (imm : Half) (s : State) : Result :=
  let a := s.address rs imm
  if s.cop2Refused then s.raise .ri
  else s.checkStore a 4 ((s.store32 a (Config.c2StoreSource s.c2 rt)).writeC2 (Config.c2AfterStore s.c2 rt)).advance

/-- COP2 (R287). -/
def execCop2 (copfunc : BitVec 25) (s : State) : Result :=
  if s.cop2Refused then s.raise .ri
  else .next (s.applyCop2 (Config.c2Op s.c2 copfunc s.regs s.mem s.resets)).advance

end Sys2Proof.Machine
end

