-- ==== Sys2Proof/Machine/Immediate.lean ====
section
/-! DEFINITION. The register-immediate computational instructions (41_computational_imm.md). -/

namespace Sys2Proof.Machine

/-- How a computational instruction ends: its result in the destination register, and pc + 4 (R170, R190). -/
def State.computed (s : State) (dest : Reg) (v : Word) : Result := .next (s.writeReg dest v).advance

/-- ADDI (R171): Ov if the signed sum overflows, and then the destination is not written. -/
def execAddi (rt rs : Reg) (imm : Half) (s : State) : Result :=
  let a := s.readReg rs
  let b := signExtendImm imm
  if addOverflows a b then s.raise .ov else s.computed rt (a + b)

/-- ADDIU (R172). -/
def execAddiu (rt rs : Reg) (imm : Half) (s : State) : Result := s.computed rt (s.readReg rs + signExtendImm imm)

/-- SLTI (R173). -/
def execSlti (rt rs : Reg) (imm : Half) (s : State) : Result :=
  s.computed rt (boolWord (lessSigned (s.readReg rs) (signExtendImm imm)))

/-- SLTIU (R174): the immediate is sign-extended, then compared as unsigned. -/
def execSltiu (rt rs : Reg) (imm : Half) (s : State) : Result :=
  s.computed rt (boolWord (lessUnsigned (s.readReg rs) (signExtendImm imm)))

/-- ANDI (R175). -/
def execAndi (rt rs : Reg) (imm : Half) (s : State) : Result := s.computed rt (s.readReg rs &&& zeroExtendImm imm)

/-- ORI (R176). -/
def execOri (rt rs : Reg) (imm : Half) (s : State) : Result := s.computed rt (s.readReg rs ||| zeroExtendImm imm)

/-- XORI (R177). -/
def execXori (rt rs : Reg) (imm : Half) (s : State) : Result := s.computed rt (s.readReg rs ^^^ zeroExtendImm imm)

/-- LUI (R178). -/
def execLui (rt : Reg) (imm : Half) (s : State) : Result := s.computed rt (upperImm imm)

end Sys2Proof.Machine
end

