-- ==== Sys2Proof/Machine/MulDiv.lean ====
section
/-! DEFINITION. The multiply and divide instructions (43_multiply_divide.md). Each completes in one step (R230). -/

namespace Sys2Proof.Machine

/-- MFHI (R221). -/
def execMfhi (rd : Reg) (s : State) : Result := s.computed rd s.hi

/-- MTHI (R222). -/
def execMthi (rs : Reg) (s : State) : Result := .next (s.writeHiLo (s.readReg rs) s.lo).advance

/-- MFLO (R223). -/
def execMflo (rd : Reg) (s : State) : Result := s.computed rd s.lo

/-- MTLO (R224). -/
def execMtlo (rs : Reg) (s : State) : Result := .next (s.writeHiLo s.hi (s.readReg rs)).advance

/-- MULT (R225). -/
def execMult (rs rt : Reg) (s : State) : Result :=
  let p := productSigned (s.readReg rs) (s.readReg rt)
  .next (s.writeHiLo (upperHalf p) (lowerHalf p)).advance

/-- MULTU (R226). -/
def execMultu (rs rt : Reg) (s : State) : Result :=
  let p := productUnsigned (s.readReg rs) (s.readReg rt)
  .next (s.writeHiLo (upperHalf p) (lowerHalf p)).advance

/-- DIV (R227): quotient in `lo`, remainder in `hi`; two free values where the source states no result (R229). -/
def execDiv (rs rt : Reg) (s : State) : Result :=
  let n := s.readReg rs
  let d := s.readReg rt
  if divUnstated n d then .next ((s.writeHiLo s.any32' s.any32).drawn 2).advance
  else .next (s.writeHiLo (remainderSigned n d) (quotientSigned n d)).advance

/-- DIVU (R228). -/
def execDivu (rs rt : Reg) (s : State) : Result :=
  let n := s.readReg rs
  let d := s.readReg rt
  if divuUnstated d then .next ((s.writeHiLo s.any32' s.any32).drawn 2).advance
  else .next (s.writeHiLo (remainderUnsigned n d) (quotientUnsigned n d)).advance

end Sys2Proof.Machine
end

