-- ==== Sys2Proof/Machine/Register.lean ====
section
/-! DEFINITION. The register-register computational instructions (42_computational_reg.md). -/

namespace Sys2Proof.Machine

/-- SLL (R191). -/
def execSll (rd rt : Reg) (shamt : BitVec 5) (s : State) : Result := s.computed rd (shiftLeft (s.readReg rt) shamt)

/-- SRL (R192). -/
def execSrl (rd rt : Reg) (shamt : BitVec 5) (s : State) : Result :=
  s.computed rd (shiftRightLogical (s.readReg rt) shamt)

/-- SRA (R193). -/
def execSra (rd rt : Reg) (shamt : BitVec 5) (s : State) : Result :=
  s.computed rd (shiftRightArith (s.readReg rt) shamt)

/-- SLLV (R194). -/
def execSllv (rd rt rs : Reg) (s : State) : Result :=
  s.computed rd (shiftLeft (s.readReg rt) (shiftAmount (s.readReg rs)))

/-- SRLV (R195). -/
def execSrlv (rd rt rs : Reg) (s : State) : Result :=
  s.computed rd (shiftRightLogical (s.readReg rt) (shiftAmount (s.readReg rs)))

/-- SRAV (R196). -/
def execSrav (rd rt rs : Reg) (s : State) : Result :=
  s.computed rd (shiftRightArith (s.readReg rt) (shiftAmount (s.readReg rs)))

/-- ADD (R197): Ov if the signed sum overflows, and then the destination is not written. -/
def execAdd (rd rs rt : Reg) (s : State) : Result :=
  if addOverflows (s.readReg rs) (s.readReg rt) then s.raise .ov else s.computed rd (s.readReg rs + s.readReg rt)

/-- ADDU (R198). -/
def execAddu (rd rs rt : Reg) (s : State) : Result := s.computed rd (s.readReg rs + s.readReg rt)

/-- SUB (R199): Ov if the signed difference overflows, and then the destination is not written. -/
def execSub (rd rs rt : Reg) (s : State) : Result :=
  if subOverflows (s.readReg rs) (s.readReg rt) then s.raise .ov else s.computed rd (s.readReg rs - s.readReg rt)

/-- SUBU (R200). -/
def execSubu (rd rs rt : Reg) (s : State) : Result := s.computed rd (s.readReg rs - s.readReg rt)

/-- AND (R201). -/
def execAnd (rd rs rt : Reg) (s : State) : Result := s.computed rd (s.readReg rs &&& s.readReg rt)

/-- OR (R202). -/
def execOr (rd rs rt : Reg) (s : State) : Result := s.computed rd (s.readReg rs ||| s.readReg rt)

/-- XOR (R203). -/
def execXor (rd rs rt : Reg) (s : State) : Result := s.computed rd (s.readReg rs ^^^ s.readReg rt)

/-- NOR (R204). -/
def execNor (rd rs rt : Reg) (s : State) : Result := s.computed rd (~~~(s.readReg rs ||| s.readReg rt))

/-- SLT (R205). -/
def execSlt (rd rs rt : Reg) (s : State) : Result :=
  s.computed rd (boolWord (lessSigned (s.readReg rs) (s.readReg rt)))

/-- SLTU (R206). -/
def execSltu (rd rs rt : Reg) (s : State) : Result :=
  s.computed rd (boolWord (lessUnsigned (s.readReg rs) (s.readReg rt)))

end Sys2Proof.Machine
end

