-- ==== Sys2Proof/Machine/Special.lean ====
section
/-! DEFINITION. SYSCALL, BREAK and SYNC (47_special.md). The code field is not decoded by the hardware (30_encoding.md
R133). -/

namespace Sys2Proof.Machine

/-- SYSCALL (R290): the exception Sys, always. -/
def execSyscall (s : State) : Result := s.raise .sys

/-- BREAK (R291): the exception Bp, always. -/
def execBreak (s : State) : Result := s.raise .bp

/-- SYNC (R292): on one processor, whose accesses are all performed in program order, it only advances pc. -/
def execSync (s : State) : Result := .next s.advance

end Sys2Proof.Machine
end

