-- ==== Sys2Proof/Machine/Environment.lean ====
section
/-! DEFINITION. What happens at an instruction boundary besides the instruction (60_exceptions.md R300): the clock, the
host, other processors, the reset event, and the taking of interrupts. -/

namespace Sys2Proof.Machine

/-! ## The environment (R300 part E) -/

/-- One clock tick: `count` is incremented, and IP7 is set if it thereby reaches `compare` (10_state.md R35). -/
def State.tick (s : State) : State :=
  { s with count := s.count + 1#32, cause := { s.cause with ip7 := s.cause.ip7 || s.count + 1#32 == s.compare } }

/-- `n` clock ticks, said at once: `count` advances by `n`, and IP7 is set if `count` reaches `compare` on the way (R35). -/
def State.ticks (s : State) (n : Nat) : State :=
  { s with
    count := s.count + BitVec.ofNat 32 n
    cause := { s.cause with ip7 := s.cause.ip7 || decide ((s.compare - s.count - 1#32).toNat < n) } }

/-- How many ticks pass at a boundary of which no input is listed: none while the clock waits, else a free number of at
least one (`TICKS`; log 4). -/
def State.freeTicks (s : State) : Nat := if s.clockWait = 0 then Config.anyNat s.draws + 1 else 0

/-- How long the clock waits after such a boundary: one boundary less, or a free number of them after it has ticked. -/
def State.freeWait (s : State) : Nat := if s.clockWait = 0 then Config.anyNat (s.draws + 1) else s.clockWait - 1

/-- How many free numbers have been drawn after such a boundary: two more if the clock ticked. -/
def State.freeDraws (s : State) : Nat := if s.clockWait = 0 then s.draws + 2 else s.draws

/-- What the clock does at a boundary of which no input is listed. The waits and the ticks are free numbers, so every
sequence of tick numbers arises but one that is zero for ever (R35; 70_reset_and_hazards.md R381; log 4). -/
def State.freeClock (s : State) : State :=
  { s.ticks s.freeTicks with clockWait := s.freeWait, draws := s.freeDraws }

/-- The number of bytes of an access (20_memory.md R83). -/
def Width.bytes : Width → Nat
  | .byte => 1
  | .half => 2
  | .word => 4

/-- Stores the low bytes of a word. -/
def State.storeWidth (s : State) (width : Width) (addr v : Word) : State :=
  match width with
  | .byte => s.store8 addr (v.extractLsb' 0 8)
  | .half => s.store16 addr (v.extractLsb' 0 16)
  | .word => s.store32 addr v

/-- Two addresses lie in the same aligned word of physical memory (R93: the location is the aligned word). -/
def State.sameLocation (s : State) (a b : Word) : Bool := s.physical a / 4 == s.physical b / 4

/-- Another processor's SC to an aligned word: it is stored, and if it is to the linked location the link is cleared
(20_memory.md R92 2b). -/
def State.otherSC (s : State) (addr v : Word) : State :=
  let t := s.store32 addr v
  { t with linkValid := t.linkValid && !s.sameLocation addr s.linkAddr }

/-- One action of the environment. A misaligned access of another processor is never performed (R77), so it changes
nothing. -/
def State.envAction (s : State) (a : EnvAction) : State :=
  match a with
  | .tick => s.tick
  | .hostWriteFromhost v => { s with fromhost := v }
  | .hostReadTohost => s
  | .hostSetIP6 b => { s with cause := { s.cause with ip6 := b } }
  | .clearLink => { s with linkValid := false }
  | .otherStore width addr v => if addr.toNat % width.bytes = 0 then s.storeWidth width addr v else s
  | .otherSC addr v => if addr.toNat % 4 = 0 then s.otherSC addr v else s

/-- A boundary at which nothing but the clock acts and no interrupt is deferred: what the model takes when no input is
listed (log 4). -/
def quietBoundary : BoundaryInput := { actions := [], reset := false, defer := false }

/-- What the outside world does at the coming boundary. -/
def State.nextInput (s : State) : BoundaryInput := s.inputs.headD quietBoundary

/-- The state after the environment's actions at the coming boundary: those its input lists, which is thereby used up,
or the clock's own where none is listed. -/
def State.environment (s : State) : State :=
  match s.inputs with
  | [] => s.freeClock
  | input :: rest => input.actions.foldl State.envAction { s with inputs := rest }

/-! ## Interrupts (60_exceptions.md R311, R312) -/

/-- `HintReady` (R311). -/
def State.hintReady (s : State) : Bool := s.status.iec && s.status.im6 && s.cause.ip6

/-- `TintReady` (R311). -/
def State.tintReady (s : State) : Bool := s.status.iec && s.status.im7 && s.cause.ip7

/-- `InterruptEnabledPending` (R311). -/
def State.interruptEnabledPending (s : State) : Bool := s.hintReady || s.tintReady

/-- `TakeInterrupt`: Hint has priority over Tint, and the IP flag stays as it is (R312). -/
def State.takeInterrupt (s : State) : State := s.trapEntry (if s.hintReady then .hint else .tint)

/-! ## Reset during a run (70_reset_and_hazards.md R360, R361) -/

/-- The reset event: pc, KUc, IEc and `tohost` as R360 says, and a free value in everything else, memory included
(its bytes are free anew because the number of resets has changed; log 6). -/
def State.resetEvent (s : State) : State where
  regs := Vector.ofFn fun i => Config.any32 (s.draws + i.val)
  hi := Config.any32 (s.draws + 31)
  lo := Config.any32 (s.draws + 32)
  pc := Config.resetVector
  status :=
    { cu0 := Config.anyBit s.draws
      im7 := Config.anyBit (s.draws + 1)
      im6 := Config.anyBit (s.draws + 2)
      im50 := (Config.any32 (s.draws + 33)).extractLsb' 0 6
      kuo := Config.anyBit (s.draws + 3)
      ieo := Config.anyBit (s.draws + 4)
      kup := Config.anyBit (s.draws + 5)
      iep := Config.anyBit (s.draws + 6)
      kuc := false
      iec := false }
  cause :=
    { ip7 := Config.anyBit (s.draws + 7)
      ip6 := Config.anyBit (s.draws + 8)
      excCode := (Config.any32 (s.draws + 34)).extractLsb' 0 5 }
  epc := Config.any32 (s.draws + 35)
  badvaddr := Config.any32 (s.draws + 36)
  count := Config.any32 (s.draws + 37)
  compare := Config.any32 (s.draws + 38)
  fromhost := (Config.any32 (s.draws + 39)).extractLsb' 0 8
  tohost := 0#8
  linkValid := Config.anyBit (s.draws + 9)
  linkAddr := Config.any32 (s.draws + 40)
  mem := []
  params := s.params
  c2 := Config.c2AfterReset s.draws
  inputs := s.inputs
  clockWait := Config.anyNat s.draws
  draws := s.draws + 41
  resets := s.resets + 1

end Sys2Proof.Machine
end

