-- ==== Sys2Proof/Machine/Variant.lean ====
section
/-! DEFINITION. SMIPSv1 and SMIPSv2, cut out of SMIPSv3 (00_scope.md R2, R3; 30_encoding.md R136). The meanings are
SMIPSv3's; a step of a smaller variant runs an instruction only where it is in the variant, names an implemented CP0
register and raises nothing, and is refused elsewhere (92_eei_decisions.md D23; 93_implementation_defined.md U11;
log 27). -/

namespace Sys2Proof.Machine

/-- The digit in the variant's name. A variant contains every instruction tagged with its own digit or a smaller one
(R2). -/
def variantDigit : Variant → Nat
  | .v1 => 1
  | .v2 => 2
  | .v3 => 3

/-- Exceptions and interrupts are SMIPSv3's alone (R2). -/
def hasExceptions (v : Variant) : Bool := v == .v3

/-- The built variant contains the instruction; the Coprocessor 2 instructions, which are in no variant, come with the
coprocessor (R2, R136; 46_cop2.md R280). -/
def implemented (p : Params) (i : Instr) : Bool :=
  match i.row.variant with
  | some v => decide (variantDigit v ≤ variantDigit p.variant)
  | none => p.hasCop2

/-- A CP0 register of SMIPSv1 and SMIPSv2: the source names `tohost` alone (R2; 45_cop0.md R260). -/
def smallVariantCop0 (rd : Reg) : Bool := rd == 21#5

/-- The instruction, of those SMIPSv2 and an attached Coprocessor 2 have, takes no exception and names no CP0 register
those variants lack (60_exceptions.md R302 lists what can raise what). Of the others nothing is asked, since no smaller
variant contains them. -/
def State.withinSmallVariant (s : State) (i : Instr) : Bool :=
  match i with
  | .lw _ rs imm | .sw _ rs imm => !s.addressError (s.address rs imm) 4
  | .mfc0 _ rd | .mtc0 _ rd => smallVariantCop0 rd && !s.cop0Refused
  | .mfc2 _ _ | .mtc2 _ _ | .cfc2 _ _ | .ctc2 _ _ | .cop2 _ => !s.cop2Refused
  | .lwc2 _ rs imm | .swc2 _ rs imm => !s.cop2Refused && !s.addressError (s.address rs imm) 4
  | .lb _ _ _ | .lh _ _ _ | .lbu _ _ _ | .lhu _ _ _ | .ll _ _ _ | .sb _ _ _ | .sh _ _ _ | .sc _ _ _ => true
  | .addi _ _ _ | .addiu _ _ _ | .slti _ _ _ | .sltiu _ _ _ | .andi _ _ _ | .ori _ _ _ | .xori _ _ _ | .lui _ _ => true
  | .sll _ _ _ | .srl _ _ _ | .sra _ _ _ | .sllv _ _ _ | .srlv _ _ _ | .srav _ _ _ => true
  | .add _ _ _ | .addu _ _ _ | .sub _ _ _ | .subu _ _ _ | .and _ _ _ | .or _ _ _ | .xor _ _ _ | .nor _ _ _ => true
  | .slt _ _ _ | .sltu _ _ _ => true
  | .mfhi _ | .mthi _ | .mflo _ | .mtlo _ | .mult _ _ | .multu _ _ | .div _ _ | .divu _ _ => true
  | .j _ | .jal _ | .jr _ | .jalr _ _ => true
  | .beq _ _ _ | .bne _ _ _ | .blez _ _ | .bgtz _ _ | .bltz _ _ | .bgez _ _ => true
  | .eret | .syscall _ | .brk _ | .sync => true

/-- The built variant gives the instruction a meaning in this state: SMIPSv3 always. -/
def State.inVariant (s : State) (i : Instr) : Bool :=
  hasExceptions s.params.variant || (implemented s.params i && s.withinSmallVariant i)

/-- An exception before the instruction is known (AdEF, RI): taken by SMIPSv3, refused in the smaller variants. -/
def State.raiseInVariant (s : State) (e : Exc) : Result :=
  if hasExceptions s.params.variant then s.raise e else .refused .outsideVariant

/-- An interrupt is taken at the coming boundary: one is enabled and pending after the environment's actions, the input
does not defer it (R314), and the variant has interrupts. -/
def State.takesInterrupt (s : State) : Bool :=
  hasExceptions s.params.variant && s.environment.interruptEnabledPending && !s.nextInput.defer

end Sys2Proof.Machine
end

