-- ==== Sys2Proof/Machine/Step.lean ====
section
/-! DEFINITION. One step of the machine (60_exceptions.md R300): what the environment does at the boundary, and then one
of three things: the reset event, the taking of an interrupt, or one instruction. -/

namespace Sys2Proof.Machine

/-- Fetch, decode and execute (R300 steps 3 to 6): AdEF if the word cannot be fetched, RI if it is reserved, else the
instruction's meaning; refused where the built variant gives none. -/
def State.runInstruction (s : State) : Result :=
  match s.fetch with
  | none => s.raiseInVariant .adEF
  | some w =>
    match decodeWord w with
    | .reserved _ => s.raiseInVariant .ri
    | .instr i => if s.inVariant i then exec i s else .refused .outsideVariant

/-- One step (R300). -/
def step (s : State) : Host.Outcome State Fault Refusal :=
  if s.nextInput.reset then .next s.environment.resetEvent
  else if s.takesInterrupt then .next s.environment.takeInterrupt
  else s.environment.runInstruction

/-- The word whose bits 0 to `nbits - 1` are those of `w`, the others zero, stored at pc. It stands for the load of a
program from outside the machine (log 10). -/
def State.withFetchWord (s : State) (nbits w : Nat) : State := s.store32 s.pc (BitVec.ofNat 32 (w % 2 ^ nbits))

end Sys2Proof.Machine
end

