-- ==== Sys2Proof/WellFormed.lean ====
section
/-! DEFINITION. What well-formed data is. An instruction needs no check: the fields of `Instr` have exactly the widths of
the encoding (00_scope.md R13), so every instruction has a word. The checks are on the implementation parameters, on
what the environment may do, and on the state as a whole. -/

namespace Sys2Proof.Machine

/-- `PA_BITS` is 1 to 32 (R8). -/
def paramsWf (p : Params) : Bool := decide (1 ≤ p.paBits ∧ p.paBits ≤ 32)

/-- Another processor's access is naturally aligned (20_memory.md R77, R84). -/
def envActionWf (a : EnvAction) : Bool :=
  match a with
  | .otherStore width addr _ => addr.toNat % width.bytes == 0
  | .otherSC addr _ => addr.toNat % 4 == 0
  | .tick => true
  | .hostWriteFromhost _ => true
  | .hostReadTohost => true
  | .hostSetIP6 _ => true
  | .clearLink => true

/-- Every action of a boundary's input is well formed. -/
def boundaryWf (b : BoundaryInput) : Bool := b.actions.all envActionWf

/-- Memory lists only implemented physical addresses, in canonical form (R71; 10_state.md R58). -/
def memoryWf (paBits : Nat) (m : Memory) : Bool := decide m.wf && m.all fun c => decide (c.1 < 2 ^ paBits)

/-- The whole state: legal parameters, memory in canonical form within the implemented addresses, legal inputs. -/
def State.wf (s : State) : Bool :=
  paramsWf s.params && memoryWf s.params.paBits s.mem && s.inputs.all boundaryWf

end Sys2Proof.Machine
end

