-- ==== Sys2Proof/Safety.lean ====
section
/-! DEFINITION. The terms in which claims about the machine are stated: what a state keeps of another, what completing
and trapping mean, and what the memory protection protects. A run is safe when no step of it stops. -/

namespace Sys2Proof.Machine

/-! ## What stays the same -/

/-- Every general register reads the same. -/
def SameRegs (s t : State) : Prop := ∀ q, t.readReg q = s.readReg q

/-- General register `r` reads `v`, unless it is register 0, and every other reads the same (10_state.md R21). -/
def OnlyReg (s t : State) (r : Reg) (v : Word) : Prop :=
  ∀ q, t.readReg q = if q = r ∧ r ≠ 0#5 then v else s.readReg q

/-- `hi` and `lo` are unchanged. -/
def SameHiLo (s t : State) : Prop := t.hi = s.hi ∧ t.lo = s.lo

/-- Every CP0 register is unchanged. -/
def SameCp0 (s t : State) : Prop :=
  t.status = s.status ∧ t.cause = s.cause ∧ t.epc = s.epc ∧ t.badvaddr = s.badvaddr ∧ t.count = s.count ∧
  t.compare = s.compare ∧ t.fromhost = s.fromhost ∧ t.tohost = s.tohost

/-- The link address register is unchanged. -/
def SameLink (s t : State) : Prop := t.linkValid = s.linkValid ∧ t.linkAddr = s.linkAddr

/-- Every byte of memory reads the same. -/
def SameMem (s t : State) : Prop := ∀ a, t.load8 a = s.load8 a

/-- Every byte of memory reads the same but the `n` bytes from `addr` on. -/
def SameMemOutside (s t : State) (addr : Word) (n : Nat) : Prop :=
  ∀ a, (∀ k, k < n → s.physical a ≠ s.physical (addr + BitVec.ofNat 32 k)) → t.load8 a = s.load8 a

/-- The model's own fields are unchanged, but for the coprocessor's state and the number of draws. -/
def SameModel (s t : State) : Prop :=
  t.params = s.params ∧ t.inputs = s.inputs ∧ t.clockWait = s.clockWait ∧ t.resets = s.resets

/-- All but general registers, pc, memory, the coprocessor's state and the number of draws is unchanged. -/
def SameSpecial (s t : State) : Prop := SameHiLo s t ∧ SameCp0 s t ∧ SameLink s t ∧ SameModel s t

/-- All but the general registers and pc is unchanged. -/
def SameRest (s t : State) : Prop := SameSpecial s t ∧ SameMem s t ∧ t.c2 = s.c2 ∧ t.draws = s.draws

/-! ## Completing and trapping -/

/-- The instruction completes, writing only register `r` and advancing pc. -/
def WritesReg (i : Instr) (s : State) (r : Reg) (v : Word) : Prop :=
  ∃ t, exec i s = .next t ∧ t.pc = s.pc + 4#32 ∧ OnlyReg s t r v ∧ SameRest s t

/-- The instruction completes, changing pc alone. -/
def SetsPc (i : Instr) (s : State) (target : Word) : Prop :=
  ∃ t, exec i s = .next t ∧ t.pc = target ∧ SameRegs s t ∧ SameRest s t

/-- What trap entry makes of a state (60_exceptions.md R320), `badvaddr` apart. -/
def Trapped (s t : State) (code : BitVec 5) : Prop :=
  t.epc = s.pc ∧ t.pc = 0x00001100#32 ∧ t.cause.excCode = code ∧ t.cause.ip7 = s.cause.ip7 ∧
  t.cause.ip6 = s.cause.ip6 ∧ t.status.kuo = s.status.kup ∧ t.status.ieo = s.status.iep ∧
  t.status.kup = s.status.kuc ∧ t.status.iep = s.status.iec ∧ t.status.kuc = false ∧ t.status.iec = false ∧
  t.status.cu0 = s.status.cu0 ∧ t.status.im7 = s.status.im7 ∧ t.status.im6 = s.status.im6 ∧
  t.status.im50 = s.status.im50 ∧ t.linkValid = false ∧ t.linkAddr = s.linkAddr ∧ t.count = s.count ∧
  t.compare = s.compare ∧ t.fromhost = s.fromhost ∧ t.tohost = s.tohost ∧ SameRegs s t ∧ SameHiLo s t ∧ SameMem s t ∧
  t.c2 = s.c2 ∧ SameModel s t

/-- The instruction completes, storing these bytes from `addr` on and changing no other byte, no register but pc, and
nothing else. (With so few address bits that the bytes shadow each other, R71, only the frame is claimed.) -/
def StoresBytes (i : Instr) (s : State) (addr : Word) (bytes : List Byte) : Prop :=
  ∃ t, exec i s = .next t ∧ t.pc = s.pc + 4#32 ∧ SameRegs s t ∧ SameSpecial s t ∧ t.c2 = s.c2 ∧ t.draws = s.draws ∧
    SameMemOutside s t addr bytes.length ∧
    (bytes.length ≤ 2 ^ s.params.paBits → ∀ k (h : k < bytes.length), t.load8 (addr + BitVec.ofNat 32 k) = bytes[k])

/-- All but `hi`, `lo`, pc and the number of draws is unchanged, and pc has advanced. -/
def OnlyHiLo (s t : State) : Prop :=
  t.pc = s.pc + 4#32 ∧ SameRegs s t ∧ SameCp0 s t ∧ SameLink s t ∧ SameMem s t ∧ SameModel s t ∧ t.c2 = s.c2

/-- The instruction completes, writing `hi` and `lo` alone. -/
def WritesHiLo (i : Instr) (s : State) (h l : Word) : Prop :=
  ∃ t, exec i s = .next t ∧ OnlyHiLo s t ∧ t.draws = s.draws ∧ t.hi = h ∧ t.lo = l

/-- The instruction takes the exception with this code. -/
def Traps (i : Instr) (s : State) (code : BitVec 5) : Prop := ∃ t, exec i s = .next t ∧ Trapped s t code

/-- The instruction takes the address-error exception with this code, and `badvaddr` holds the address. -/
def TrapsAt (i : Instr) (s : State) (code : BitVec 5) (addr : Word) : Prop :=
  ∃ t, exec i s = .next t ∧ Trapped s t code ∧ t.badvaddr = addr

/-! ## Addresses and modes -/

/-- An access of `n` bytes at an address is permitted: naturally aligned, and in kernel mode or to the upper half of
the address space (20_memory.md R77, R79). -/
def AccessOk (s : State) (addr : Word) (n : Nat) : Prop :=
  addr.toNat % n = 0 ∧ (s.status.kuc = false ∨ addr.msb = true)

/-- CP0 is usable: kernel mode, or CU0 is set (10_state.md R31). -/
def Cop0Usable (s : State) : Prop := s.status.kuc = false ∨ s.status.cu0 = true

/-- The processor runs an instruction at the coming boundary: no reset is asserted, and no interrupt is pending, or it is
deferred, or the variant has none. -/
def BoundaryRunsInstruction (s : State) : Prop :=
  s.nextInput.reset = false ∧
  (s.environment.interruptEnabledPending = false ∨ s.nextInput.defer = true ∨ s.params.variant ≠ .v3)

/-- The word the coming boundary would fetch decodes to this instruction. -/
def NextInstruction (s : State) (i : Instr) : Prop := decodeWord (s.environment.load32 s.environment.pc) = .instr i

/-- The run has ended (60_exceptions.md R352, the convention of decision D25): pc is the address of a branch to itself,
and no interrupt can be taken whatever the clock and the host do (log 28). R352 does not treat a pc that cannot be fetched
from (misaligned, or in the kernel-only segment in user mode), where the next step takes AdEF: counting such a state as
ended, by the four bytes at pc alone, is the model's DESIGN CHOICE, and a claim that the run then stays as it is must add
`AccessOk s s.pc 4` (log 28). -/
def RunEnded (s : State) : Prop :=
  s.load32 s.pc = 0x1000ffff#32 ∧ (s.status.iec = false ∨ (s.status.im7 = false ∧ s.status.im6 = false))

/-- The clock acts alone at the coming boundary, of which no input is listed, and ticks at least once. -/
def ClockTicks (s : State) : Prop :=
  ∃ n, 1 ≤ n ∧ s.environment =
    { State.tick^[n] s with clockWait := s.environment.clockWait, draws := s.environment.draws }

/-- Coprocessor 2 is attached and usable: kernel mode, or the free constant permits user mode (46_cop2.md R288; that
kernel mode always may is the model's choice, log 8). -/
def Cop2Usable (s : State) : Prop :=
  s.params.hasCop2 = true ∧ (s.status.kuc = false ∨ Config.c2UserUsable = true)

/-- The environment action stores nothing to memory. -/
def StoresNothing (a : EnvAction) : Prop :=
  match a with
  | .otherStore _ _ _ => False
  | .otherSC _ _ => False
  | _ => True

/-- The general register an instruction may write: the `rd` or `rt` field its rule names, and r31 for JAL (10_state.md
R22). A COP2 operation, of which the source does not say what it writes, has none here. -/
def destination : Instr → Option Reg
  | .lb rt _ _ => some rt
  | .lh rt _ _ => some rt
  | .lw rt _ _ => some rt
  | .lbu rt _ _ => some rt
  | .lhu rt _ _ => some rt
  | .ll rt _ _ => some rt
  | .sb _ _ _ => none
  | .sh _ _ _ => none
  | .sw _ _ _ => none
  | .sc rt _ _ => some rt
  | .addi rt _ _ => some rt
  | .addiu rt _ _ => some rt
  | .slti rt _ _ => some rt
  | .sltiu rt _ _ => some rt
  | .andi rt _ _ => some rt
  | .ori rt _ _ => some rt
  | .xori rt _ _ => some rt
  | .lui rt _ => some rt
  | .sll rd _ _ => some rd
  | .srl rd _ _ => some rd
  | .sra rd _ _ => some rd
  | .sllv rd _ _ => some rd
  | .srlv rd _ _ => some rd
  | .srav rd _ _ => some rd
  | .add rd _ _ => some rd
  | .addu rd _ _ => some rd
  | .sub rd _ _ => some rd
  | .subu rd _ _ => some rd
  | .and rd _ _ => some rd
  | .or rd _ _ => some rd
  | .xor rd _ _ => some rd
  | .nor rd _ _ => some rd
  | .slt rd _ _ => some rd
  | .sltu rd _ _ => some rd
  | .mfhi rd => some rd
  | .mthi _ => none
  | .mflo rd => some rd
  | .mtlo _ => none
  | .mult _ _ => none
  | .multu _ _ => none
  | .div _ _ => none
  | .divu _ _ => none
  | .j _ => none
  | .jal _ => some 31#5
  | .jr _ => none
  | .jalr rd _ => some rd
  | .beq _ _ _ => none
  | .bne _ _ _ => none
  | .blez _ _ => none
  | .bgtz _ _ => none
  | .bltz _ _ => none
  | .bgez _ _ => none
  | .mfc0 rt _ => some rt
  | .mtc0 _ _ => none
  | .eret => none
  | .mfc2 rt _ => some rt
  | .mtc2 _ _ => none
  | .cfc2 rt _ => some rt
  | .ctc2 _ _ => none
  | .lwc2 _ _ _ => none
  | .swc2 _ _ _ => none
  | .cop2 _ => none
  | .syscall _ => none
  | .brk _ => none
  | .sync => none

/-- Where a store stores: its base register, its displacement and its number of bytes (20_memory.md R83). -/
def storeOperand : Instr → Option (Reg × Half × Nat)
  | .lb _ _ _ => none
  | .lh _ _ _ => none
  | .lw _ _ _ => none
  | .lbu _ _ _ => none
  | .lhu _ _ _ => none
  | .ll _ _ _ => none
  | .sb _ rs imm => some (rs, imm, 1)
  | .sh _ rs imm => some (rs, imm, 2)
  | .sw _ rs imm => some (rs, imm, 4)
  | .sc _ rs imm => some (rs, imm, 4)
  | .addi _ _ _ => none
  | .addiu _ _ _ => none
  | .slti _ _ _ => none
  | .sltiu _ _ _ => none
  | .andi _ _ _ => none
  | .ori _ _ _ => none
  | .xori _ _ _ => none
  | .lui _ _ => none
  | .sll _ _ _ => none
  | .srl _ _ _ => none
  | .sra _ _ _ => none
  | .sllv _ _ _ => none
  | .srlv _ _ _ => none
  | .srav _ _ _ => none
  | .add _ _ _ => none
  | .addu _ _ _ => none
  | .sub _ _ _ => none
  | .subu _ _ _ => none
  | .and _ _ _ => none
  | .or _ _ _ => none
  | .xor _ _ _ => none
  | .nor _ _ _ => none
  | .slt _ _ _ => none
  | .sltu _ _ _ => none
  | .mfhi _ => none
  | .mthi _ => none
  | .mflo _ => none
  | .mtlo _ => none
  | .mult _ _ => none
  | .multu _ _ => none
  | .div _ _ => none
  | .divu _ _ => none
  | .j _ => none
  | .jal _ => none
  | .jr _ => none
  | .jalr _ _ => none
  | .beq _ _ _ => none
  | .bne _ _ _ => none
  | .blez _ _ => none
  | .bgtz _ _ => none
  | .bltz _ _ => none
  | .bgez _ _ => none
  | .mfc0 _ _ => none
  | .mtc0 _ _ => none
  | .eret => none
  | .mfc2 _ _ => none
  | .mtc2 _ _ => none
  | .cfc2 _ _ => none
  | .ctc2 _ _ => none
  | .lwc2 _ _ _ => none
  | .swc2 _ rs imm => some (rs, imm, 4)
  | .cop2 _ => none
  | .syscall _ => none
  | .brk _ => none
  | .sync => none

/-- Every step of a run of `n` steps answers a next state. -/
def RunsFor (n : Nat) (s : State) : Prop := ∃ t, Sys2Proof.core.run n s = .next t

end Sys2Proof.Machine
end

