-- ==== Sys2Proof/Certificates/Slice0/Obligations.lean ====
section
/-! DEFINITION. The statements about the machine, for the provers. Each formalises rules of spec/, named in its docstring.
Where a statement rests on a choice of the model or of the spec (a decision D<n> of 92_eei_decisions.md), its docstring
says so and names the entry of the assumption log. -/

open Sys2Proof Sys2Proof.Machine

/-! ## Encoding (30_encoding.md) -/

/-- Decoding the word of any instruction, with every operand at every value, gives that instruction back. -/
def Obligations.DecodeInvertsEncode : Prop := ∀ i : Instr, decodeWord (encode i) = .instr i

/-- A word that decodes to an instruction is the word of that instruction: each word has one meaning, and decoding
drops no bit. -/
def Obligations.EncodeInvertsDecode : Prop := ∀ (w : Word) (i : Instr), decodeWord w = .instr i → encode i = w

/-- A word decodes to an instruction exactly when it satisfies the mask and match of a row of the opcode table. -/
def Obligations.WordsDecodeExactlyByTheTable : Prop :=
  ∀ w : Word, (∃ i, decodeWord w = .instr i) ↔ ∃ r ∈ opcodeTable, w &&& r.mask = r.pattern

/-- No word satisfies two rows of the opcode table. -/
def Obligations.NoWordMatchesTwoRows : Prop :=
  ∀ (w : Word) (r q : Row), r ∈ opcodeTable → q ∈ opcodeTable → w &&& r.mask = r.pattern → w &&& q.mask = q.pattern →
    r = q

/-- Words written out in the spec decode to the instructions it says they are, one of each family; and words it names
as reserved do not decode. -/
def Obligations.WrittenOutWordsDecode : Prop :=
  decodeWord 0x8c22fffc#32 = .instr (.lw 2 1 0xfffc) ∧ decodeWord 0xe0220000#32 = .instr (.sc 2 1 0) ∧
  decodeWord 0x2022ffff#32 = .instr (.addi 2 1 0xffff) ∧ decodeWord 0x00221804#32 = .instr (.sllv 3 2 1) ∧
  decodeWord 0x00221822#32 = .instr (.sub 3 1 2) ∧ decodeWord 0x0022001a#32 = .instr (.div 1 2) ∧
  decodeWord 0x0080f809#32 = .instr (.jalr 31 4) ∧ decodeWord 0x04210003#32 = .instr (.bgez 1 3) ∧
  decodeWord 0x4082a800#32 = .instr (.mtc0 2 21) ∧ decodeWord 0xe8220008#32 = .instr (.swc2 2 1 8) ∧
  decodeWord 0x0000014c#32 = .instr (.syscall 5) ∧ decodeWord 0x3c221234#32 = .reserved .fixedZeroField ∧
  decodeWord 0x04300003#32 = .reserved .regimmValue ∧ decodeWord 0x70000000#32 = .reserved .majorOpcode

/-! ## The step (60_exceptions.md) -/

/-- When the boundary runs an instruction, pc can be fetched from, and the four bytes there decode to an instruction, the
step is that instruction's meaning, in the state after the environment's actions; and with no input listed the
environment does nothing but some number of clock ticks. SMIPSv3 runs every instruction so; SMIPSv1 and SMIPSv2 refuse
what lies outside them (decision D23, log 27), which without a coprocessor is, for SMIPSv1, all but five instructions. -/
def Obligations.StepRunsTheDecodedInstruction : Prop :=
  (∀ (s : State) (i : Instr), BoundaryRunsInstruction s → AccessOk s.environment s.environment.pc 4 →
    decodeBytes [s.environment.load8 s.environment.pc, s.environment.load8 (s.environment.pc + 1#32),
      s.environment.load8 (s.environment.pc + 2#32), s.environment.load8 (s.environment.pc + 3#32)] = .instr i →
    step s = if s.environment.inVariant i then exec i s.environment else .refused .outsideVariant) ∧
  (∀ (s : State) (i : Instr), s.params.variant = .v3 → s.inVariant i = true) ∧
  (∀ (s : State) (i : Instr), s.params.variant = .v1 → s.params.hasCop2 = false → s.inVariant i = true →
    i.row.mnemonic ∈ ["ADDIU", "BNE", "LW", "SW", "MTC0"]) ∧
  ∀ s : State, s.inputs = [] → ∃ n, s.environment =
    { State.tick^[n] s with clockWait := s.environment.clockWait, draws := s.environment.draws }

/-- SMIPSv3 never stops: every step answers a next state, so a run of any length from any state goes on, and it comes to
a boundary at which no input is listed any more and the clock ticks, so the clock does not stand still for ever. No
variant faults, and the smaller ones answer but one refusal (decision D23, log 27). That the clock's rate is then free is
the model's form of `TICKS` (decision D12, log 4). -/
def Obligations.StepNeverStops : Prop :=
  (∀ s : State, (∃ t, step s = .next t) ∨ (s.params.variant ≠ .v3 ∧ step s = .refused .outsideVariant)) ∧
  (∀ (n : Nat) (s : State), s.params.variant = .v3 → RunsFor n s) ∧
  ∀ s : State, s.params.variant = .v3 →
    ∃ n t, Sys2Proof.core.run n s = .next t ∧ t.inputs = [] ∧ ClockTicks t

/-- A fetch at a misaligned pc, or in user mode from the kernel-only segment, takes AdEF, with `epc` the pc that could
not be fetched from. SMIPSv1 and SMIPSv2, which have no exceptions, refuse it, and a reserved word too (decision D23,
log 27). -/
def Obligations.BadFetchTakesAdEF : Prop :=
  ∀ s : State, BoundaryRunsInstruction s →
    (s.params.variant = .v3 → ¬ AccessOk s.environment s.environment.pc 4 →
      ∃ t, step s = .next t ∧ Trapped s.environment t 6#5) ∧
    (s.params.variant ≠ .v3 →
      (¬ AccessOk s.environment s.environment.pc 4 ∨
        ∃ why, decodeWord (s.environment.load32 s.environment.pc) = .reserved why) →
      step s = .refused .outsideVariant)

/-- A fetched word that matches no row of the opcode table takes RI, in either mode, and changes nothing but by trap
entry (R130). That the rows' masks cover the fixed-zero fields, so that a one there makes a word reserved, is decision D2
(log 22). The rule is SMIPSv3's; BadFetchTakesAdEF says what the smaller variants do. -/
def Obligations.ReservedWordTakesRI : Prop :=
  ∀ s : State, s.params.variant = .v3 → BoundaryRunsInstruction s → AccessOk s.environment s.environment.pc 4 →
    (∀ r ∈ opcodeTable, s.environment.load32 s.environment.pc &&& r.mask ≠ r.pattern) →
    ∃ t, step s = .next t ∧ Trapped s.environment t 10#5

/-- When an interrupt is enabled and pending: the flag, its mask and the global enable are all set, whatever the mode; and
one can occur where it is so and none of higher priority is: the host's whenever it is ready, the timer's when it is and
the host's is not (R311). -/
def Obligations.InterruptNeedsFlagMaskAndEnable : Prop :=
  ∀ s : State,
    (s.hintReady = true ↔ s.cause.ip6 = true ∧ s.status.im6 = true ∧ s.status.iec = true) ∧
    (s.tintReady = true ↔ s.cause.ip7 = true ∧ s.status.im7 = true ∧ s.status.iec = true) ∧
    (s.interruptEnabledPending = true ↔ s.hintReady = true ∨ s.tintReady = true) ∧
    (s.interruptEnabledPending = true →
      (s.takeInterrupt = s.trapEntry .hint ↔ s.hintReady = true) ∧
      (s.takeInterrupt = s.trapEntry .tint ↔ s.tintReady = true ∧ s.hintReady = false))

/-- Taking an interrupt is trap entry with code 0 if the host interrupt is ready and else 2, pc being saved in `epc`;
the IP flags stay as they are (R312). -/
def Obligations.InterruptEntry : Prop :=
  ∀ s : State, s.interruptEnabledPending = true →
    Trapped s s.takeInterrupt (if s.cause.ip6 = true ∧ s.status.im6 = true then 0#5 else 2#5)

/-- An interrupt that is enabled and pending after the environment's actions is taken at that boundary unless the
boundary's input defers it; when none is, or it is deferred, the instruction runs. That an interrupt waits only for such
an input is the model's choice (log 11). SMIPSv1 and SMIPSv2 have no interrupts, so there the instruction runs
(log 27). -/
def Obligations.PendingInterruptIsTaken : Prop :=
  ∀ s : State, s.nextInput.reset = false →
    (s.params.variant = .v3 → s.environment.interruptEnabledPending = true → s.nextInput.defer = false →
      ∃ t, step s = .next t ∧
        Trapped s.environment t
          (if s.environment.cause.ip6 = true ∧ s.environment.status.im6 = true then 0#5 else 2#5)) ∧
    (BoundaryRunsInstruction s → step s = s.environment.runInstruction)

/-! ## Reset (70_reset_and_hazards.md) -/

/-- A step at whose boundary the host asserts reset leaves pc at the reset vector, kernel mode, interrupts disabled and
`tohost` zero. (Everything else is then a free value, log 6.) -/
def Obligations.ResetEventRestarts : Prop :=
  ∀ s : State, s.nextInput.reset = true →
    ∃ t, step s = .next t ∧ t.pc = 0x00001000#32 ∧ t.status.kuc = false ∧ t.status.iec = false ∧ t.tohost = 0#8

/-- The state after reset: the values R60 gives, and the first fetch is permitted and at the reset vector. -/
def Obligations.ResetStateIsAsStated : Prop :=
  State.reset.pc = 0x00001000#32 ∧ State.reset.status.kuc = false ∧ State.reset.status.iec = false ∧
  State.reset.tohost = 0#8 ∧ State.reset.readReg 0#5 = 0#32 ∧ AccessOk State.reset State.reset.pc 4 ∧
  State.reset.interruptEnabledPending = false

/-- Every step keeps the state well formed: memory stays in canonical form within the implemented addresses, the
implementation parameters never change, and the inputs are used up one a step. -/
def Obligations.StepKeepsWellFormed : Prop :=
  ∀ s t : State, s.wf = true → step s = .next t → t.wf = true ∧ t.params = s.params ∧ t.inputs = s.inputs.tail

/-- The state after reset is well formed. -/
def Obligations.ResetIsWellFormed : Prop := State.reset.wf = true

/-! ## Whole-machine rules -/

/-- The mode changes by reset (to kernel), by trap entry (to kernel, the old mode being pushed to KUp), by ERET (to the
old KUp) and by an MTC0 to `status` (to bit 1 of the value written), and by nothing else (R342). -/
def Obligations.ModeChangesOnlyAsListed : Prop :=
  (∀ s t : State, step s = .next t →
    t.status.kuc = s.status.kuc ∨ (s.nextInput.reset = true ∧ t.status.kuc = false) ∨
    (∃ e, t = s.environment.trapEntry e) ∨
    (NextInstruction s .eret ∧ t.status.kuc = s.status.kup) ∨
    (∃ rt, NextInstruction s (.mtc0 rt 12#5) ∧ t.status.kuc = (s.environment.readReg rt).getLsbD 1)) ∧
  (State.reset.status.kuc = false ∧ ∀ s : State, s.resetEvent.status.kuc = false) ∧
  (∀ (s : State) (e : Exc), (s.trapEntry e).status.kuc = false ∧ (s.trapEntry e).status.kup = s.status.kuc) ∧
  (∀ s : State, Cop0Usable s → ∃ t, exec .eret s = .next t ∧ t.status.kuc = s.status.kup) ∧
  (∀ (s : State) (rt : Reg), Cop0Usable s →
    ∃ t, exec (.mtc0 rt 12#5) s = .next t ∧ t.status.kuc = (s.readReg rt).getLsbD 1)

/-- In user mode with CU0 clear no step changes `status`, but a trap to the exception vector or a reset, both of which
enter kernel mode: a user program cannot give itself privilege. -/
def Obligations.UserModeCannotChangeStatus : Prop :=
  ∀ s t : State, s.status.kuc = true → s.status.cu0 = false → step s = .next t →
    t.status = s.status ∨
    (t.status.kuc = false ∧ t.status.iec = false ∧ (t.pc = 0x00001100#32 ∨ t.pc = 0x00001000#32))

/-- With all 32 address bits decoded and no Coprocessor 2, a step taken in user mode changes no byte of the kernel-only
segment, unless another agent stores there or the host resets. -/
def Obligations.UserModeCannotWriteKernelMemory : Prop :=
  ∀ s t : State, s.params.paBits = 32 → s.params.hasCop2 = false → s.status.kuc = true → s.nextInput.reset = false →
    (∀ a ∈ s.nextInput.actions, StoresNothing a) → step s = .next t →
    ∀ a : Word, a.msb = false → t.load8 a = s.load8 a

/-- Under the same conditions a step taken in user mode learns nothing of the kernel-only segment: from two states that
differ only there it reaches states that differ at most there. -/
def Obligations.UserModeCannotReadKernelMemory : Prop :=
  ∀ (s t u : State) (m : Memory), s.params.paBits = 32 → s.params.hasCop2 = false → s.status.kuc = true →
    s.nextInput.reset = false → (∀ a : Word, a.msb = true → { s with mem := m }.load8 a = s.load8 a) →
    step s = .next t → step { s with mem := m } = .next u →
    u = { t with mem := u.mem } ∧ ∀ a : Word, a.msb = true → u.load8 a = t.load8 a

/-- An instruction writes at most the one general register that its rule names as its destination. A COP2 operation of
an attached coprocessor, of which the source does not say what it writes, is apart. -/
def Obligations.OnlyTheDestinationRegisterChanges : Prop :=
  ∀ (i : Instr) (s t : State) (q : Reg), (∀ f, i ≠ .cop2 f) → exec i s = .next t → destination i ≠ some q →
    t.readReg q = s.readReg q

/-- An instruction changes no byte of memory but those a store stores to. COP2 is apart as above. -/
def Obligations.OnlyStoresChangeMemory : Prop :=
  ∀ (i : Instr) (s t : State) (a : Word), (∀ f, i ≠ .cop2 f) → exec i s = .next t → t.load8 a ≠ s.load8 a →
    ∃ rs imm n k, storeOperand i = some (rs, imm, n) ∧ k < n ∧
      s.physical a = s.physical (s.address rs imm + BitVec.ofNat 32 k)

/-- `hi` and `lo` are written by the multiply and divide family only. -/
def Obligations.OnlyMultiplyFamilyWritesHiLo : Prop :=
  ∀ (i : Instr) (s t : State), exec i s = .next t →
    (t.hi = s.hi ∧ t.lo = s.lo) ∨ (∃ rs, i = .mthi rs ∧ t.lo = s.lo) ∨ (∃ rs, i = .mtlo rs ∧ t.hi = s.hi) ∨
    ∃ rs rt, i = .mult rs rt ∨ i = .multu rs rt ∨ i = .div rs rt ∨ i = .divu rs rt

/-- `epc`, `badvaddr` and ExcCode are written by trap entry only: an instruction either takes a trap or leaves all
three as they were; and SMIPSv1 and SMIPSv2, which support neither exceptions nor interrupts, take no trap: a step of
them leaves all three, and `status`, as they were unless the host resets (that they refuse instead is decision D23,
log 27). -/
def Obligations.ExceptionRegistersChangeOnlyByTrap : Prop :=
  (∀ (i : Instr) (s t : State), exec i s = .next t →
    (∃ e, t = s.trapEntry e) ∨
    (t.epc = s.epc ∧ t.badvaddr = s.badvaddr ∧ t.cause.excCode = s.cause.excCode)) ∧
  ∀ s t : State, s.params.variant ≠ .v3 → s.nextInput.reset = false → step s = .next t →
    t.epc = s.epc ∧ t.badvaddr = s.badvaddr ∧ t.cause.excCode = s.cause.excCode ∧ t.status = s.status

/-- No instruction changes `fromhost` or IP6, which are the host's, and only an MTC0 to register 21 changes `tohost`. -/
def Obligations.HostRegistersBelongToTheHost : Prop :=
  ∀ (i : Instr) (s t : State), exec i s = .next t →
    t.fromhost = s.fromhost ∧ t.cause.ip6 = s.cause.ip6 ∧
    (t.tohost = s.tohost ∨ ∃ rt, i = .mtc0 rt 21#5 ∧ t.tohost = (s.readReg rt).extractLsb' 0 8)

/-- Once set, IP7 stays set through every step but a reset and one that runs an MTC0 to `compare`: one at whose boundary
an instruction runs, pc can be fetched from, that MTC0 stands there, and CP0 is usable. -/
def Obligations.TimerFlagClearedOnlyByCompareWrite : Prop :=
  ∀ s t : State, s.cause.ip7 = true → step s = .next t →
    t.cause.ip7 = true ∨ s.nextInput.reset = true ∨
    (BoundaryRunsInstruction s ∧ AccessOk s.environment s.environment.pc 4 ∧ Cop0Usable s.environment ∧
      ∃ rt, NextInstruction s (.mtc0 rt 11#5))

/-- A run that has ended by the convention of 60_exceptions.md R352 (a branch to itself, and no interrupt that could be
taken) stays ended: without a reset or a store by another agent, a step leaves pc, the general registers, `hi`, `lo`,
`status` and memory as they are, whatever the clock and the host do, and what is asked of the state here holds of the
next one too, so it is so at every later step. (The convention is decision D25, log 28. That pc can be fetched from is
asked for besides, because the model counts a run as ended by the bytes at pc alone, which is its choice, log 28.) -/
def Obligations.EndedRunStaysEnded : Prop :=
  ∀ s t : State, RunEnded s → AccessOk s s.pc 4 → s.nextInput.reset = false → (∀ a ∈ s.nextInput.actions, StoresNothing a) →
    step s = .next t →
    t.pc = s.pc ∧ SameRegs s t ∧ SameHiLo s t ∧ SameMem s t ∧ t.status = s.status ∧ RunEnded t ∧ AccessOk t t.pc 4

/-! ## Registers, memory, timer and host -/

/-- Register 0 reads as zero and discards every write; a write of another register is read back and changes no other
(R21). -/
def Obligations.RegisterWriteReadsBack : Prop :=
  ∀ (s : State) (r : Reg) (v : Word), s.readReg 0#5 = 0#32 ∧ SameRegs s (s.writeReg 0#5 v) ∧
    (r ≠ 0#5 → (s.writeReg r v).readReg r = v) ∧ ∀ q, q ≠ r → (s.writeReg r v).readReg q = s.readReg q

/-- Two addresses that agree in the implemented low bits name the same byte, and two that do not name two. -/
def Obligations.ShadowedAddressesNameOneByte : Prop :=
  ∀ (s : State) (a b : Word) (v : Byte),
    (a.toNat % 2 ^ s.params.paBits = b.toNat % 2 ^ s.params.paBits →
      s.load8 a = s.load8 b ∧ (s.store8 a v).load8 b = v) ∧
    (a.toNat % 2 ^ s.params.paBits ≠ b.toNat % 2 ^ s.params.paBits → (s.store8 a v).load8 b = s.load8 b)

/-- After a word is stored at an aligned address, its bytes, its halfwords and the word itself read big-endian. -/
def Obligations.MixedWidthAccessIsBigEndian : Prop :=
  ∀ (s : State) (a v : Word), 2 ≤ s.params.paBits → a.toNat % 4 = 0 →
    (s.store32 a v).load8 a = v.extractLsb' 24 8 ∧ (s.store32 a v).load8 (a + 1#32) = v.extractLsb' 16 8 ∧
    (s.store32 a v).load8 (a + 2#32) = v.extractLsb' 8 8 ∧ (s.store32 a v).load8 (a + 3#32) = v.extractLsb' 0 8 ∧
    (s.store32 a v).load16 a = v.extractLsb' 16 16 ∧ (s.store32 a v).load16 (a + 2#32) = v.extractLsb' 0 16 ∧
    (s.store32 a v).load32 a = v

/-- A word stored by SW is fetched as the same word at the very next fetch from its address: no fence is needed
(decision D17, log 16). -/
def Obligations.StoredWordIsFetched : Prop :=
  ∀ (s t : State) (rt rs : Reg) (imm : Half), 2 ≤ s.params.paBits → AccessOk s (s.address rs imm) 4 →
    exec (.sw rt rs imm) s = .next t → { t with pc := s.address rs imm }.fetch = some (s.readReg rt)

/-- After any number of clock ticks `count` has advanced by that number modulo 2^32, IP7 is set if it was or if `count`
reached `compare` on the way, and nothing else has changed; and the ticks of an unlisted boundary, which the model makes
at once, are so many ticks one by one. -/
def Obligations.TicksCountAndFlagTheTimer : Prop :=
  ∀ (n : Nat) (s : State),
    (State.tick^[n] s).count = s.count + BitVec.ofNat 32 n ∧
    ((State.tick^[n] s).cause.ip7 = true ↔
      s.cause.ip7 = true ∨ ∃ k, 1 ≤ k ∧ k ≤ n ∧ s.count + BitVec.ofNat 32 k = s.compare) ∧
    State.tick^[n] s = { s with count := (State.tick^[n] s).count, cause := (State.tick^[n] s).cause } ∧
    (State.tick^[n] s).cause.ip6 = s.cause.ip6 ∧ (State.tick^[n] s).cause.excCode = s.cause.excCode ∧
    s.ticks n = State.tick^[n] s

/-- The host's actions: writing `fromhost` changes that register alone, setting or clearing IP6 that flag alone, and
reading `tohost` nothing (decision D26: the host has no other action, log 17). -/
def Obligations.HostActionsChangeOnlyTheirOwn : Prop :=
  ∀ (s : State) (v : Byte) (b : Bool),
    s.envAction (.hostWriteFromhost v) = { s with fromhost := v } ∧
    s.envAction (.hostSetIP6 b) = { s with cause := { s.cause with ip6 := b } } ∧
    s.envAction .hostReadTohost = s

/-- Another processor's SC to a word of the linked location stores the word and clears the link, and one to another
word leaves the link as it was; `ClearLink` clears it. That other processors act so between two instructions is the
model's reading (log 5). -/
def Obligations.OtherProcessorsBreakTheLink : Prop :=
  ∀ (s : State) (a v : Word), 2 ≤ s.params.paBits → a.toNat % 4 = 0 →
    (s.envAction (.otherSC a v)).load32 a = v ∧
    (s.physical a / 4 = s.physical s.linkAddr / 4 → (s.envAction (.otherSC a v)).linkValid = false) ∧
    (s.physical a / 4 ≠ s.physical s.linkAddr / 4 → (s.envAction (.otherSC a v)).linkValid = s.linkValid) ∧
    (s.envAction .clearLink).linkValid = false ∧ SameMem s (s.envAction .clearLink)

/-! ## Exceptions and returns -/

/-- Trap entry, for every exception and every interrupt (R320), with the codes of R305: `epc` gets pc, ExcCode the code,
the KU/IE stack is pushed, the link is cleared, pc goes to the one vector, `badvaddr` gets the address of an AdEL or AdES,
and nothing else changes. -/
def Obligations.TrapEntryEffect : Prop :=
  ∀ s : State,
    (∀ e, Trapped s (s.trapEntry e) e.code) ∧
    (∀ a, (s.trapEntry (.adEL a)).badvaddr = a ∧ (s.trapEntry (.adES a)).badvaddr = a ∧
      (Exc.adEL a).code = 4#5 ∧ (Exc.adES a).code = 5#5) ∧
    Exc.hint.code = 0#5 ∧ Exc.tint.code = 2#5 ∧ Exc.adEF.code = 6#5 ∧ Exc.sys.code = 8#5 ∧ Exc.bp.code = 9#5 ∧
    Exc.ri.code = 10#5 ∧ Exc.ov.code = 12#5

/-- An ERET right after a trap resumes at the address that was interrupted, in the mode and with the interrupt enable
that were current, with every register and all of memory as they were (decision D5: ERET returns to `epc`, log 12). -/
def Obligations.TrapThenEretResumes : Prop :=
  ∀ (s : State) (e : Exc), ∃ t, exec .eret (s.trapEntry e) = .next t ∧ t.pc = s.pc ∧ t.status.kuc = s.status.kuc ∧
    t.status.iec = s.status.iec ∧ t.status.kup = s.status.kup ∧ t.status.iep = s.status.iep ∧ SameRegs s t ∧
    SameHiLo s t ∧ SameMem s t ∧ t.count = s.count ∧ t.compare = s.compare ∧ t.tohost = s.tohost ∧
    t.fromhost = s.fromhost ∧ t.linkValid = false

/-! ## Computational instructions (41_computational_imm.md, 42_computational_reg.md) -/

/-- The register-immediate instructions that raise nothing: the result, the destination alone written, and the word. -/
def Obligations.ImmediateResults : Prop :=
  ∀ (s : State) (rt rs : Reg) (imm : Half),
    WritesReg (.addiu rt rs imm) s rt (s.readReg rs + imm.signExtend 32) ∧
    WritesReg (.slti rt rs imm) s rt
      (if (s.readReg rs).toInt < (imm.signExtend 32).toInt then 0x00000001#32 else 0x00000000#32) ∧
    WritesReg (.sltiu rt rs imm) s rt
      (if (s.readReg rs).toNat < (imm.signExtend 32).toNat then 0x00000001#32 else 0x00000000#32) ∧
    WritesReg (.andi rt rs imm) s rt (s.readReg rs &&& imm.zeroExtend 32) ∧
    WritesReg (.ori rt rs imm) s rt (s.readReg rs ||| imm.zeroExtend 32) ∧
    WritesReg (.xori rt rs imm) s rt (s.readReg rs ^^^ imm.zeroExtend 32) ∧
    WritesReg (.lui rt imm) s rt (imm ++ 0#16) ∧
    encode (.addiu rt rs imm) = 0b001001#6 ++ (rs ++ (rt ++ imm)) ∧
    encode (.slti rt rs imm) = 0b001010#6 ++ (rs ++ (rt ++ imm)) ∧
    encode (.sltiu rt rs imm) = 0b001011#6 ++ (rs ++ (rt ++ imm)) ∧
    encode (.andi rt rs imm) = 0b001100#6 ++ (rs ++ (rt ++ imm)) ∧
    encode (.ori rt rs imm) = 0b001101#6 ++ (rs ++ (rt ++ imm)) ∧
    encode (.xori rt rs imm) = 0b001110#6 ++ (rs ++ (rt ++ imm)) ∧
    encode (.lui rt imm) = 0b001111#6 ++ (0b00000#5 ++ (rt ++ imm))

/-- The register-register instructions that raise nothing: the result, the destination alone written, and the word. -/
def Obligations.RegisterResults : Prop :=
  ∀ (s : State) (rd rs rt : Reg),
    WritesReg (.addu rd rs rt) s rd (s.readReg rs + s.readReg rt) ∧
    WritesReg (.subu rd rs rt) s rd (s.readReg rs - s.readReg rt) ∧
    WritesReg (.and rd rs rt) s rd (s.readReg rs &&& s.readReg rt) ∧
    WritesReg (.or rd rs rt) s rd (s.readReg rs ||| s.readReg rt) ∧
    WritesReg (.xor rd rs rt) s rd (s.readReg rs ^^^ s.readReg rt) ∧
    WritesReg (.nor rd rs rt) s rd (~~~(s.readReg rs ||| s.readReg rt)) ∧
    WritesReg (.slt rd rs rt) s rd
      (if (s.readReg rs).toInt < (s.readReg rt).toInt then 0x00000001#32 else 0x00000000#32) ∧
    WritesReg (.sltu rd rs rt) s rd
      (if (s.readReg rs).toNat < (s.readReg rt).toNat then 0x00000001#32 else 0x00000000#32) ∧
    encode (.addu rd rs rt) = 0b000000#6 ++ (rs ++ (rt ++ (rd ++ (0b00000#5 ++ 0b100001#6)))) ∧
    encode (.subu rd rs rt) = 0b000000#6 ++ (rs ++ (rt ++ (rd ++ (0b00000#5 ++ 0b100011#6)))) ∧
    encode (.and rd rs rt) = 0b000000#6 ++ (rs ++ (rt ++ (rd ++ (0b00000#5 ++ 0b100100#6)))) ∧
    encode (.or rd rs rt) = 0b000000#6 ++ (rs ++ (rt ++ (rd ++ (0b00000#5 ++ 0b100101#6)))) ∧
    encode (.xor rd rs rt) = 0b000000#6 ++ (rs ++ (rt ++ (rd ++ (0b00000#5 ++ 0b100110#6)))) ∧
    encode (.nor rd rs rt) = 0b000000#6 ++ (rs ++ (rt ++ (rd ++ (0b00000#5 ++ 0b100111#6)))) ∧
    encode (.slt rd rs rt) = 0b000000#6 ++ (rs ++ (rt ++ (rd ++ (0b00000#5 ++ 0b101010#6)))) ∧
    encode (.sltu rd rs rt) = 0b000000#6 ++ (rs ++ (rt ++ (rd ++ (0b00000#5 ++ 0b101011#6))))

/-- The shifts: by the constant field, or by the bottom five bits of a register; the arithmetic right shift rounds the
signed quotient by the power of two down. -/
def Obligations.ShiftResults : Prop :=
  ∀ (s : State) (rd rt rs : Reg) (n : BitVec 5),
    WritesReg (.sll rd rt n) s rd (s.readReg rt <<< n.toNat) ∧
    WritesReg (.srl rd rt n) s rd (s.readReg rt >>> n.toNat) ∧
    WritesReg (.sra rd rt n) s rd (BitVec.ofInt 32 ((s.readReg rt).toInt / 2 ^ n.toNat)) ∧
    WritesReg (.sllv rd rt rs) s rd (s.readReg rt <<< ((s.readReg rs).toNat % 32)) ∧
    WritesReg (.srlv rd rt rs) s rd (s.readReg rt >>> ((s.readReg rs).toNat % 32)) ∧
    WritesReg (.srav rd rt rs) s rd (BitVec.ofInt 32 ((s.readReg rt).toInt / 2 ^ ((s.readReg rs).toNat % 32)))

/-- ADD, SUB and ADDI: when the exact signed result fits in 32 bits they complete with it, and otherwise they take Ov,
the destination being left unwritten (decision D10, log 13). -/
def Obligations.AddAndSubtractTrapOnOverflow : Prop :=
  ∀ (s : State) (rd rs rt : Reg) (imm : Half) (n : Int),
    (n = (s.readReg rs).toInt + (s.readReg rt).toInt →
      (-2147483648 ≤ n ∧ n ≤ 2147483647 → WritesReg (.add rd rs rt) s rd (BitVec.ofInt 32 n)) ∧
      (n < -2147483648 ∨ 2147483647 < n → Traps (.add rd rs rt) s 12#5)) ∧
    (n = (s.readReg rs).toInt - (s.readReg rt).toInt →
      (-2147483648 ≤ n ∧ n ≤ 2147483647 → WritesReg (.sub rd rs rt) s rd (BitVec.ofInt 32 n)) ∧
      (n < -2147483648 ∨ 2147483647 < n → Traps (.sub rd rs rt) s 12#5)) ∧
    (n = (s.readReg rs).toInt + imm.toInt →
      (-2147483648 ≤ n ∧ n ≤ 2147483647 → WritesReg (.addi rd rs imm) s rd (BitVec.ofInt 32 n)) ∧
      (n < -2147483648 ∨ 2147483647 < n → Traps (.addi rd rs imm) s 12#5))

/-! ## Multiply and divide (43_multiply_divide.md) -/

/-- The moves to and from `hi` and `lo`. -/
def Obligations.HiLoMoves : Prop :=
  ∀ (s : State) (r : Reg),
    WritesReg (.mfhi r) s r s.hi ∧ WritesReg (.mflo r) s r s.lo ∧
    WritesHiLo (.mthi r) s (s.readReg r) s.lo ∧ WritesHiLo (.mtlo r) s s.hi (s.readReg r) ∧
    encode (.mfhi r) = 0b000000#6 ++ (0b00000#5 ++ (0b00000#5 ++ (r ++ (0b00000#5 ++ 0b010000#6)))) ∧
    encode (.mflo r) = 0b000000#6 ++ (0b00000#5 ++ (0b00000#5 ++ (r ++ (0b00000#5 ++ 0b010010#6)))) ∧
    encode (.mthi r) = 0b000000#6 ++ (r ++ (0b00000#5 ++ (0b00000#5 ++ (0b00000#5 ++ 0b010001#6)))) ∧
    encode (.mtlo r) = 0b000000#6 ++ (r ++ (0b00000#5 ++ (0b00000#5 ++ (0b00000#5 ++ 0b010011#6))))

/-- MULT and MULTU leave the exact signed and unsigned product in `hi` and `lo` together (decision D14: `hi` the upper
half, log 15). -/
def Obligations.MultiplyLeavesTheExactProduct : Prop :=
  ∀ (s : State) (rs rt : Reg),
    (∃ t, exec (.mult rs rt) s = .next t ∧ OnlyHiLo s t ∧ t.draws = s.draws ∧
      (t.hi ++ t.lo).toInt = (s.readReg rs).toInt * (s.readReg rt).toInt) ∧
    (∃ t, exec (.multu rs rt) s = .next t ∧ OnlyHiLo s t ∧ t.draws = s.draws ∧
      (t.hi ++ t.lo).toNat = (s.readReg rs).toNat * (s.readReg rt).toNat)

/-- DIV and DIVU with a stated result: dividend = quotient * divisor + remainder, the signed quotient rounded toward
zero (decision D13, log 15), and nothing but `hi` and `lo` changed. -/
def Obligations.DivideLeavesQuotientAndRemainder : Prop :=
  ∀ (s : State) (rs rt : Reg), s.readReg rt ≠ 0#32 →
    (¬ ((s.readReg rs).toInt = -2147483648 ∧ (s.readReg rt).toInt = -1) →
      ∃ t, exec (.div rs rt) s = .next t ∧ OnlyHiLo s t ∧ t.draws = s.draws ∧
        t.lo.toInt = Int.tdiv (s.readReg rs).toInt (s.readReg rt).toInt ∧
        t.hi.toInt = Int.tmod (s.readReg rs).toInt (s.readReg rt).toInt ∧
        (s.readReg rs).toInt = t.lo.toInt * (s.readReg rt).toInt + t.hi.toInt) ∧
    ∃ t, exec (.divu rs rt) s = .next t ∧ OnlyHiLo s t ∧ t.draws = s.draws ∧
      t.lo.toNat = (s.readReg rs).toNat / (s.readReg rt).toNat ∧
      t.hi.toNat = (s.readReg rs).toNat % (s.readReg rt).toNat

/-- Where the source states no result (a zero divisor, and DIV of -2^31 by -1) the divides complete all the same,
changing nothing but `hi`, `lo` and pc; what `hi` and `lo` hold is free (decision D13, log 3). -/
def Obligations.UnstatedDividesComplete : Prop :=
  ∀ (s : State) (rs rt : Reg),
    (s.readReg rt = 0#32 ∨ ((s.readReg rs).toInt = -2147483648 ∧ (s.readReg rt).toInt = -1) →
      ∃ t, exec (.div rs rt) s = .next t ∧ OnlyHiLo s t) ∧
    (s.readReg rt = 0#32 → ∃ t, exec (.divu rs rt) s = .next t ∧ OnlyHiLo s t)

/-! ## Jumps and branches (44_jumps_branches.md) -/

/-- The four jumps (R241 to R244): the target, the link register alone written, and the words. (That JALR reads its target
before it writes the link, which matters where `rd` is `rs`, is the spec's decision D20, log 13.) -/
def Obligations.JumpResults : Prop :=
  ∀ (s : State) (target : BitVec 26) (rd rs : Reg),
    SetsPc (.j target) s ((s.pc + 4#32).extractLsb' 28 4 ++ (target ++ 0b00#2)) ∧
    (∃ t, exec (.jal target) s = .next t ∧ t.pc = (s.pc + 4#32).extractLsb' 28 4 ++ (target ++ 0b00#2) ∧
      OnlyReg s t 31#5 (s.pc + 4#32) ∧ SameRest s t) ∧
    SetsPc (.jr rs) s (s.readReg rs) ∧
    (∃ t, exec (.jalr rd rs) s = .next t ∧ t.pc = s.readReg rs ∧ OnlyReg s t rd (s.pc + 4#32) ∧ SameRest s t) ∧
    encode (.j target) = 0b000010#6 ++ target ∧ encode (.jal target) = 0b000011#6 ++ target ∧
    encode (.jr rs) = 0b000000#6 ++ (rs ++ (0b00000#5 ++ (0b00000#5 ++ (0b00000#5 ++ 0b001000#6)))) ∧
    encode (.jalr rd rs) = 0b000000#6 ++ (rs ++ (0b00000#5 ++ (rd ++ (0b00000#5 ++ 0b001001#6))))

/-- The six branches: taken exactly on their condition, to pc + 4 plus four times the signed displacement, else to
pc + 4, nothing but pc changing; and their words. -/
def Obligations.BranchResults : Prop :=
  ∀ (s : State) (rs rt : Reg) (imm : Half) (target : Word), target = s.pc + 4#32 + BitVec.ofInt 32 (4 * imm.toInt) →
    SetsPc (.beq rs rt imm) s (if s.readReg rs = s.readReg rt then target else s.pc + 4#32) ∧
    SetsPc (.bne rs rt imm) s (if s.readReg rs ≠ s.readReg rt then target else s.pc + 4#32) ∧
    SetsPc (.blez rs imm) s (if (s.readReg rs).toInt ≤ 0 then target else s.pc + 4#32) ∧
    SetsPc (.bgtz rs imm) s (if 0 < (s.readReg rs).toInt then target else s.pc + 4#32) ∧
    SetsPc (.bltz rs imm) s (if (s.readReg rs).toInt < 0 then target else s.pc + 4#32) ∧
    SetsPc (.bgez rs imm) s (if 0 ≤ (s.readReg rs).toInt then target else s.pc + 4#32) ∧
    encode (.beq rs rt imm) = 0b000100#6 ++ (rs ++ (rt ++ imm)) ∧
    encode (.bne rs rt imm) = 0b000101#6 ++ (rs ++ (rt ++ imm)) ∧
    encode (.blez rs imm) = 0b000110#6 ++ (rs ++ (0b00000#5 ++ imm)) ∧
    encode (.bgtz rs imm) = 0b000111#6 ++ (rs ++ (0b00000#5 ++ imm)) ∧
    encode (.bltz rs imm) = 0b000001#6 ++ (rs ++ (0b00000#5 ++ imm)) ∧
    encode (.bgez rs imm) = 0b000001#6 ++ (rs ++ (0b00001#5 ++ imm))

/-! ## Loads and stores (40_loads_stores.md) -/

/-- The five plain loads: a permitted access writes the loaded value, big-endian and extended, to `rt` alone; any other
takes AdEL with the address in `badvaddr`. -/
def Obligations.LoadsReadOrTrap : Prop :=
  ∀ (s : State) (rt rs : Reg) (imm : Half) (a : Word), a = s.address rs imm →
    a = s.readReg rs + imm.signExtend 32 ∧
    (AccessOk s a 1 →
      WritesReg (.lb rt rs imm) s rt ((s.load8 a).signExtend 32) ∧
      WritesReg (.lbu rt rs imm) s rt ((s.load8 a).zeroExtend 32)) ∧
    (AccessOk s a 2 →
      WritesReg (.lh rt rs imm) s rt ((s.load8 a ++ s.load8 (a + 1#32)).signExtend 32) ∧
      WritesReg (.lhu rt rs imm) s rt ((s.load8 a ++ s.load8 (a + 1#32)).zeroExtend 32)) ∧
    (AccessOk s a 4 →
      WritesReg (.lw rt rs imm) s rt
        (s.load8 a ++ s.load8 (a + 1#32) ++ s.load8 (a + 2#32) ++ s.load8 (a + 3#32))) ∧
    (¬ AccessOk s a 1 → TrapsAt (.lb rt rs imm) s 4#5 a ∧ TrapsAt (.lbu rt rs imm) s 4#5 a) ∧
    (¬ AccessOk s a 2 → TrapsAt (.lh rt rs imm) s 4#5 a ∧ TrapsAt (.lhu rt rs imm) s 4#5 a) ∧
    (¬ AccessOk s a 4 → TrapsAt (.lw rt rs imm) s 4#5 a) ∧
    encode (.lb rt rs imm) = 0b100000#6 ++ (rs ++ (rt ++ imm)) ∧
    encode (.lh rt rs imm) = 0b100001#6 ++ (rs ++ (rt ++ imm)) ∧
    encode (.lw rt rs imm) = 0b100011#6 ++ (rs ++ (rt ++ imm)) ∧
    encode (.lbu rt rs imm) = 0b100100#6 ++ (rs ++ (rt ++ imm)) ∧
    encode (.lhu rt rs imm) = 0b100101#6 ++ (rs ++ (rt ++ imm))

/-- The three plain stores: a permitted access stores the low bytes of `rt`, most significant first, and changes
nothing else; any other takes AdES with the address in `badvaddr` and stores nothing. -/
def Obligations.StoresWriteOrTrap : Prop :=
  ∀ (s : State) (rt rs : Reg) (imm : Half) (a : Word), a = s.address rs imm →
    a = s.readReg rs + imm.signExtend 32 ∧
    (AccessOk s a 1 → StoresBytes (.sb rt rs imm) s a [(s.readReg rt).extractLsb' 0 8]) ∧
    (AccessOk s a 2 →
      StoresBytes (.sh rt rs imm) s a [(s.readReg rt).extractLsb' 8 8, (s.readReg rt).extractLsb' 0 8]) ∧
    (AccessOk s a 4 →
      StoresBytes (.sw rt rs imm) s a
        [(s.readReg rt).extractLsb' 24 8, (s.readReg rt).extractLsb' 16 8, (s.readReg rt).extractLsb' 8 8,
          (s.readReg rt).extractLsb' 0 8]) ∧
    (¬ AccessOk s a 1 → TrapsAt (.sb rt rs imm) s 5#5 a) ∧ (¬ AccessOk s a 2 → TrapsAt (.sh rt rs imm) s 5#5 a) ∧
    (¬ AccessOk s a 4 → TrapsAt (.sw rt rs imm) s 5#5 a) ∧
    encode (.sb rt rs imm) = 0b101000#6 ++ (rs ++ (rt ++ imm)) ∧
    encode (.sh rt rs imm) = 0b101001#6 ++ (rs ++ (rt ++ imm)) ∧
    encode (.sw rt rs imm) = 0b101011#6 ++ (rs ++ (rt ++ imm))

/-- LL is a word load that sets the link address register; a bad address takes AdEL (decision D15: the width, log 18). -/
def Obligations.LoadLinkedSetsTheLink : Prop :=
  ∀ (s : State) (rt rs : Reg) (imm : Half) (a : Word), a = s.address rs imm →
    (AccessOk s a 4 →
      ∃ t, exec (.ll rt rs imm) s = .next t ∧ t.pc = s.pc + 4#32 ∧
        OnlyReg s t rt (s.load8 a ++ s.load8 (a + 1#32) ++ s.load8 (a + 2#32) ++ s.load8 (a + 3#32)) ∧
        t.linkValid = true ∧ t.linkAddr = a ∧ SameHiLo s t ∧ SameCp0 s t ∧ SameMem s t ∧ SameModel s t ∧
        t.c2 = s.c2) ∧
    (¬ AccessOk s a 4 → TrapsAt (.ll rt rs imm) s 4#5 a)

/-- SC: with a valid link it stores the word and writes 1 to `rt`, without one it stores nothing and writes 0; a bad
address takes AdES before the link is tested, storing nothing. Whether the link is valid afterwards is free (decision
D15, log 18). -/
def Obligations.StoreConditionalTestsTheLink : Prop :=
  ∀ (s : State) (rt rs : Reg) (imm : Half) (a : Word), a = s.address rs imm →
    (AccessOk s a 4 →
      ∃ t, exec (.sc rt rs imm) s = .next t ∧ t.pc = s.pc + 4#32 ∧ SameHiLo s t ∧ SameCp0 s t ∧
        t.linkAddr = s.linkAddr ∧ SameModel s t ∧ t.c2 = s.c2 ∧
        (s.linkValid = true → OnlyReg s t rt 0x00000001#32 ∧ SameMemOutside s t a 4 ∧
          (2 ≤ s.params.paBits → t.load32 a = s.readReg rt)) ∧
        (s.linkValid = false → OnlyReg s t rt 0x00000000#32 ∧ SameMem s t)) ∧
    (¬ AccessOk s a 4 → TrapsAt (.sc rt rs imm) s 5#5 a)

/-- An SC right after an LL, to any permitted address, succeeds; an SC after an LL and a trap fails (decision D15: SC
does not compare addresses, log 18). -/
def Obligations.LinkSurvivesUntilTrap : Prop :=
  ∀ (s t : State) (rt rs rt' rs' : Reg) (imm imm' : Half) (e : Exc), AccessOk s (s.address rs imm) 4 →
    exec (.ll rt rs imm) s = .next t →
    (AccessOk t (t.address rs' imm') 4 →
      ∃ u, exec (.sc rt' rs' imm') t = .next u ∧ OnlyReg t u rt' 0x00000001#32 ∧
        (2 ≤ s.params.paBits → u.load32 (t.address rs' imm') = t.readReg rt')) ∧
    ((t.address rs' imm').toNat % 4 = 0 →
      ∃ u, exec (.sc rt' rs' imm') (t.trapEntry e) = .next u ∧ OnlyReg t u rt' 0x00000000#32 ∧ SameMem t u)

/-! ## System coprocessor (45_cop0.md) -/

/-- MFC0 where CP0 is usable: it writes `rt` alone, with the named register's value, the reserved fields of `status`
and `cause` reading as zero (an unused number reads as a free value, decision D7, log 19). -/
def Obligations.MoveFromCp0Reads : Prop :=
  ∀ (s : State) (rt rd : Reg), Cop0Usable s →
    ∃ t v, exec (.mfc0 rt rd) s = .next t ∧ t.pc = s.pc + 4#32 ∧ OnlyReg s t rt v ∧ SameSpecial s t ∧ SameMem s t ∧
      t.c2 = s.c2 ∧
      (rd = 8#5 → v = s.badvaddr) ∧ (rd = 9#5 → v = s.count) ∧ (rd = 11#5 → v = s.compare) ∧ (rd = 14#5 → v = s.epc) ∧
      (rd = 20#5 → v = 0#24 ++ s.fromhost) ∧ (rd = 21#5 → v = 0#24 ++ s.tohost) ∧
      (rd = 12#5 →
        v.getLsbD 28 = s.status.cu0 ∧ v.getLsbD 15 = s.status.im7 ∧ v.getLsbD 14 = s.status.im6 ∧
        v.getLsbD 5 = s.status.kuo ∧ v.getLsbD 4 = s.status.ieo ∧ v.getLsbD 3 = s.status.kup ∧
        v.getLsbD 2 = s.status.iep ∧ v.getLsbD 1 = s.status.kuc ∧ v.getLsbD 0 = s.status.iec ∧
        v &&& 0xefff00c0#32 = 0#32 ∧ (∀ k, k < 6 → s.status.im50.getLsbD k = false → v.getLsbD (8 + k) = false)) ∧
      (rd = 13#5 →
        v.getLsbD 15 = s.cause.ip7 ∧ v.getLsbD 14 = s.cause.ip6 ∧ v.extractLsb' 2 5 = s.cause.excCode ∧
        v &&& 0xffff0083#32 = 0#32)

/-- MTC0 where CP0 is usable: each writable register takes the value, a write of `compare` also clears IP7, and nothing
else changes; a write to a read-only or unused register changes nothing (decisions D6 and D7, log 19). That IP7 is
otherwise unchanged, also where the write makes `count` equal to `compare`, is decision D12, which the spec calls a guess
(R36, log 21). -/
def Obligations.MoveToCp0Writes : Prop :=
  ∀ (s : State) (rt rd : Reg) (v : Word), v = s.readReg rt → Cop0Usable s →
    ∃ t, exec (.mtc0 rt rd) s = .next t ∧ t.pc = s.pc + 4#32 ∧ SameRegs s t ∧ SameHiLo s t ∧ SameLink s t ∧
      SameMem s t ∧ SameModel s t ∧ t.c2 = s.c2 ∧ t.epc = s.epc ∧ t.badvaddr = s.badvaddr ∧
      t.fromhost = s.fromhost ∧ t.cause.ip6 = s.cause.ip6 ∧ t.cause.excCode = s.cause.excCode ∧
      t.count = (if rd = 9#5 then v else s.count) ∧ t.compare = (if rd = 11#5 then v else s.compare) ∧
      t.cause.ip7 = (if rd = 11#5 then false else s.cause.ip7) ∧
      t.tohost = (if rd = 21#5 then v.extractLsb' 0 8 else s.tohost) ∧
      (rd ≠ 12#5 → t.status = s.status) ∧
      (rd = 12#5 →
        t.status.cu0 = v.getLsbD 28 ∧ t.status.im7 = v.getLsbD 15 ∧ t.status.im6 = v.getLsbD 14 ∧
        t.status.im50 = v.extractLsb' 8 6 ∧ t.status.kuo = v.getLsbD 5 ∧ t.status.ieo = v.getLsbD 4 ∧
        t.status.kup = v.getLsbD 3 ∧ t.status.iep = v.getLsbD 2 ∧ t.status.kuc = v.getLsbD 1 ∧
        t.status.iec = v.getLsbD 0)

/-- A value with zeros in the unused mask bits, written to `status` and read back, keeps its implemented bits and loses
the others (decision D8, log 19). -/
def Obligations.StatusReadsBackWhatWasWritten : Prop :=
  ∀ (s t u : State) (rt rt' : Reg), Cop0Usable s → (s.readReg rt).extractLsb' 8 6 = 0#6 →
    exec (.mtc0 rt 12#5) s = .next t → Cop0Usable t → exec (.mfc0 rt' 12#5) t = .next u → rt' ≠ 0#5 →
    u.readReg rt' = s.readReg rt &&& 0x1000c03f#32

/-- MFC0, MTC0 and ERET in user mode with CU0 clear are refused with RI, no CP0 register being read or written (decision
D4: the code is the spec's choice, log 9). -/
def Obligations.Cop0RefusedInUserMode : Prop :=
  ∀ (s : State) (rt rd : Reg), s.status.kuc = true → s.status.cu0 = false →
    Traps (.mfc0 rt rd) s 10#5 ∧ Traps (.mtc0 rt rd) s 10#5 ∧ Traps .eret s 10#5

/-- ERET where CP0 is usable: pc gets `epc`, the KU/IE stack is popped, and nothing else changes (decision D5, log 12). -/
def Obligations.EretReturns : Prop :=
  ∀ s : State, Cop0Usable s →
    ∃ t, exec .eret s = .next t ∧ t.pc = s.epc ∧ t.status.kuc = s.status.kup ∧ t.status.iec = s.status.iep ∧
      t.status.kup = s.status.kuo ∧ t.status.iep = s.status.ieo ∧ t.status.kuo = s.status.kuo ∧
      t.status.ieo = s.status.ieo ∧ t.status.cu0 = s.status.cu0 ∧ t.status.im7 = s.status.im7 ∧
      t.status.im6 = s.status.im6 ∧ t.status.im50 = s.status.im50 ∧ t.cause = s.cause ∧ t.epc = s.epc ∧
      t.badvaddr = s.badvaddr ∧ t.count = s.count ∧ t.compare = s.compare ∧ t.fromhost = s.fromhost ∧
      t.tohost = s.tohost ∧ SameRegs s t ∧ SameHiLo s t ∧ SameLink s t ∧ SameMem s t ∧ SameModel s t ∧ t.c2 = s.c2

/-! ## Coprocessor 2 (46_cop2.md) and the special instructions (47_special.md) -/

/-- Without Coprocessor 2 each of its seven instructions takes RI, in both modes (decision D3, log 8). -/
def Obligations.AbsentCop2TakesRI : Prop :=
  ∀ (s : State) (rt rd : Reg) (imm : Half) (copfunc : BitVec 25), s.params.hasCop2 = false →
    Traps (.mfc2 rt rd) s 10#5 ∧ Traps (.mtc2 rt rd) s 10#5 ∧ Traps (.cfc2 rt rd) s 10#5 ∧ Traps (.ctc2 rt rd) s 10#5 ∧
    Traps (.lwc2 rt rd imm) s 10#5 ∧ Traps (.swc2 rt rd imm) s 10#5 ∧ Traps (.cop2 copfunc) s 10#5

/-- With Coprocessor 2 attached and usable its seven instructions complete. The six transfers transfer what R281 to R286
say: MFC2 and CFC2 write `rt` with the coprocessor's value, MTC2, CTC2 and LWC2 give the coprocessor theirs, and SWC2
stores the coprocessor's word to its four bytes; LWC2 and SWC2 check their address as LW and SW do (decision D3). What
the coprocessor makes of it is free (log 8). The model's choices, which the spec leaves open (R287, R288; log 8): that
COP2 changes neither `hi`, `lo`, CP0 nor the link, that kernel mode always may use the coprocessor and user mode where a
free constant says so, and that user mode otherwise takes RI. -/
def Obligations.AttachedCop2Completes : Prop :=
  ∀ (s : State) (rt rd rs : Reg) (imm : Half) (copfunc : BitVec 25) (a : Word), a = s.address rs imm →
    (Cop2Usable s →
      (∃ t, exec (.mfc2 rt rd) s = .next t ∧ t.pc = s.pc + 4#32 ∧ OnlyReg s t rt (Config.c2Read s.c2 rd) ∧
        SameSpecial s t ∧ SameMem s t) ∧
      (∃ t, exec (.cfc2 rt rd) s = .next t ∧ t.pc = s.pc + 4#32 ∧ OnlyReg s t rt (Config.c2ReadCtl s.c2 rd) ∧
        SameSpecial s t ∧ SameMem s t) ∧
      (∃ t, exec (.mtc2 rt rd) s = .next t ∧ t.pc = s.pc + 4#32 ∧ t.c2 = Config.c2Write s.c2 rd (s.readReg rt) ∧
        SameRegs s t ∧ SameSpecial s t ∧ SameMem s t) ∧
      (∃ t, exec (.ctc2 rt rd) s = .next t ∧ t.pc = s.pc + 4#32 ∧ t.c2 = Config.c2WriteCtl s.c2 rd (s.readReg rt) ∧
        SameRegs s t ∧ SameSpecial s t ∧ SameMem s t) ∧
      (∃ t, exec (.cop2 copfunc) s = .next t ∧ t.pc = s.pc + 4#32 ∧ SameSpecial s t) ∧
      (AccessOk s a 4 →
        (∃ t, exec (.lwc2 rt rs imm) s = .next t ∧ t.pc = s.pc + 4#32 ∧
          t.c2 = Config.c2LoadTarget s.c2 rt
            (s.load8 a ++ s.load8 (a + 1#32) ++ s.load8 (a + 2#32) ++ s.load8 (a + 3#32)) ∧
          SameRegs s t ∧ SameSpecial s t ∧ SameMem s t) ∧
        (∃ t, exec (.swc2 rt rs imm) s = .next t ∧ t.pc = s.pc + 4#32 ∧ SameRegs s t ∧ SameSpecial s t ∧
          SameMemOutside s t a 4 ∧ (2 ≤ s.params.paBits → t.load32 a = Config.c2StoreSource s.c2 rt))) ∧
      (¬ AccessOk s a 4 → TrapsAt (.lwc2 rt rs imm) s 4#5 a ∧ TrapsAt (.swc2 rt rs imm) s 5#5 a)) ∧
    (s.status.kuc = true →
      Config.c2UserUsable = true ∨
      (Traps (.mfc2 rt rd) s 10#5 ∧ Traps (.mtc2 rt rd) s 10#5 ∧ Traps (.cfc2 rt rd) s 10#5 ∧
        Traps (.ctc2 rt rd) s 10#5 ∧ Traps (.lwc2 rt rs imm) s 10#5 ∧ Traps (.swc2 rt rs imm) s 10#5 ∧
        Traps (.cop2 copfunc) s 10#5))

/-- SYSCALL and BREAK take their exceptions whatever their code field, in both modes; and their words. -/
def Obligations.SyscallAndBreakTrap : Prop :=
  ∀ (s : State) (code : BitVec 20),
    Traps (.syscall code) s 8#5 ∧ Traps (.brk code) s 9#5 ∧
    encode (.syscall code) = 0b000000#6 ++ (code ++ 0b001100#6) ∧
    encode (.brk code) = 0b000000#6 ++ (code ++ 0b001101#6)

/-- SYNC changes nothing but pc (decision D28, log 20). -/
def Obligations.SyncOnlyAdvances : Prop := ∀ s : State, SetsPc .sync s (s.pc + 4#32)
end

