-- ==== Sys2Proof/Laws/State.lean ====
section
/-! SUPPORT. The small lemmas of the state's operations: for each operation and each field, what the field is afterwards;
and which readers an operation leaves alone. All are true by unfolding one record update. -/

namespace Sys2Proof.Machine

/-! ## writeReg -/

@[simp] theorem State.writeReg_regs (s : State) (r : Reg) (v : Word) : (s.writeReg r v).regs = setReg s.regs r v := rfl
@[simp] theorem State.writeReg_hi (s : State) (r : Reg) (v : Word) : (s.writeReg r v).hi = s.hi := rfl
@[simp] theorem State.writeReg_lo (s : State) (r : Reg) (v : Word) : (s.writeReg r v).lo = s.lo := rfl
@[simp] theorem State.writeReg_pc (s : State) (r : Reg) (v : Word) : (s.writeReg r v).pc = s.pc := rfl
@[simp] theorem State.writeReg_status (s : State) (r : Reg) (v : Word) : (s.writeReg r v).status = s.status := rfl
@[simp] theorem State.writeReg_cause (s : State) (r : Reg) (v : Word) : (s.writeReg r v).cause = s.cause := rfl
@[simp] theorem State.writeReg_epc (s : State) (r : Reg) (v : Word) : (s.writeReg r v).epc = s.epc := rfl
@[simp] theorem State.writeReg_badvaddr (s : State) (r : Reg) (v : Word) : (s.writeReg r v).badvaddr = s.badvaddr := rfl
@[simp] theorem State.writeReg_count (s : State) (r : Reg) (v : Word) : (s.writeReg r v).count = s.count := rfl
@[simp] theorem State.writeReg_compare (s : State) (r : Reg) (v : Word) : (s.writeReg r v).compare = s.compare := rfl
@[simp] theorem State.writeReg_fromhost (s : State) (r : Reg) (v : Word) : (s.writeReg r v).fromhost = s.fromhost := rfl
@[simp] theorem State.writeReg_tohost (s : State) (r : Reg) (v : Word) : (s.writeReg r v).tohost = s.tohost := rfl
@[simp] theorem State.writeReg_linkValid (s : State) (r : Reg) (v : Word) : (s.writeReg r v).linkValid = s.linkValid := rfl
@[simp] theorem State.writeReg_linkAddr (s : State) (r : Reg) (v : Word) : (s.writeReg r v).linkAddr = s.linkAddr := rfl
@[simp] theorem State.writeReg_mem (s : State) (r : Reg) (v : Word) : (s.writeReg r v).mem = s.mem := rfl
@[simp] theorem State.writeReg_params (s : State) (r : Reg) (v : Word) : (s.writeReg r v).params = s.params := rfl
@[simp] theorem State.writeReg_c2 (s : State) (r : Reg) (v : Word) : (s.writeReg r v).c2 = s.c2 := rfl
@[simp] theorem State.writeReg_inputs (s : State) (r : Reg) (v : Word) : (s.writeReg r v).inputs = s.inputs := rfl
@[simp] theorem State.writeReg_clockWait (s : State) (r : Reg) (v : Word) : (s.writeReg r v).clockWait = s.clockWait := rfl
@[simp] theorem State.writeReg_draws (s : State) (r : Reg) (v : Word) : (s.writeReg r v).draws = s.draws := rfl
@[simp] theorem State.writeReg_resets (s : State) (r : Reg) (v : Word) : (s.writeReg r v).resets = s.resets := rfl
@[simp] theorem State.writeReg_load8 (s : State) (r : Reg) (v : Word) (p : Word) : (s.writeReg r v).load8 p = s.load8 p := rfl
@[simp] theorem State.writeReg_physical (s : State) (r : Reg) (v : Word) (p : Word) : (s.writeReg r v).physical p = s.physical p := rfl
@[simp] theorem State.writeReg_addressError (s : State) (r : Reg) (v : Word) (p : Word) (k : Nat) : (s.writeReg r v).addressError p k = s.addressError p k := rfl

/-! ## jumpTo -/

@[simp] theorem State.jumpTo_regs (s : State) (target : Word) : (s.jumpTo target).regs = s.regs := rfl
@[simp] theorem State.jumpTo_hi (s : State) (target : Word) : (s.jumpTo target).hi = s.hi := rfl
@[simp] theorem State.jumpTo_lo (s : State) (target : Word) : (s.jumpTo target).lo = s.lo := rfl
@[simp] theorem State.jumpTo_pc (s : State) (target : Word) : (s.jumpTo target).pc = target := rfl
@[simp] theorem State.jumpTo_status (s : State) (target : Word) : (s.jumpTo target).status = s.status := rfl
@[simp] theorem State.jumpTo_cause (s : State) (target : Word) : (s.jumpTo target).cause = s.cause := rfl
@[simp] theorem State.jumpTo_epc (s : State) (target : Word) : (s.jumpTo target).epc = s.epc := rfl
@[simp] theorem State.jumpTo_badvaddr (s : State) (target : Word) : (s.jumpTo target).badvaddr = s.badvaddr := rfl
@[simp] theorem State.jumpTo_count (s : State) (target : Word) : (s.jumpTo target).count = s.count := rfl
@[simp] theorem State.jumpTo_compare (s : State) (target : Word) : (s.jumpTo target).compare = s.compare := rfl
@[simp] theorem State.jumpTo_fromhost (s : State) (target : Word) : (s.jumpTo target).fromhost = s.fromhost := rfl
@[simp] theorem State.jumpTo_tohost (s : State) (target : Word) : (s.jumpTo target).tohost = s.tohost := rfl
@[simp] theorem State.jumpTo_linkValid (s : State) (target : Word) : (s.jumpTo target).linkValid = s.linkValid := rfl
@[simp] theorem State.jumpTo_linkAddr (s : State) (target : Word) : (s.jumpTo target).linkAddr = s.linkAddr := rfl
@[simp] theorem State.jumpTo_mem (s : State) (target : Word) : (s.jumpTo target).mem = s.mem := rfl
@[simp] theorem State.jumpTo_params (s : State) (target : Word) : (s.jumpTo target).params = s.params := rfl
@[simp] theorem State.jumpTo_c2 (s : State) (target : Word) : (s.jumpTo target).c2 = s.c2 := rfl
@[simp] theorem State.jumpTo_inputs (s : State) (target : Word) : (s.jumpTo target).inputs = s.inputs := rfl
@[simp] theorem State.jumpTo_clockWait (s : State) (target : Word) : (s.jumpTo target).clockWait = s.clockWait := rfl
@[simp] theorem State.jumpTo_draws (s : State) (target : Word) : (s.jumpTo target).draws = s.draws := rfl
@[simp] theorem State.jumpTo_resets (s : State) (target : Word) : (s.jumpTo target).resets = s.resets := rfl
@[simp] theorem State.jumpTo_readReg (s : State) (target : Word) (q : Reg) : (s.jumpTo target).readReg q = s.readReg q := rfl
@[simp] theorem State.jumpTo_load8 (s : State) (target : Word) (p : Word) : (s.jumpTo target).load8 p = s.load8 p := rfl
@[simp] theorem State.jumpTo_physical (s : State) (target : Word) (p : Word) : (s.jumpTo target).physical p = s.physical p := rfl
@[simp] theorem State.jumpTo_addressError (s : State) (target : Word) (p : Word) (k : Nat) : (s.jumpTo target).addressError p k = s.addressError p k := rfl

/-! ## advance -/

@[simp] theorem State.advance_regs (s : State) : (s.advance).regs = s.regs := rfl
@[simp] theorem State.advance_hi (s : State) : (s.advance).hi = s.hi := rfl
@[simp] theorem State.advance_lo (s : State) : (s.advance).lo = s.lo := rfl
@[simp] theorem State.advance_pc (s : State) : (s.advance).pc = s.pc + 4#32 := rfl
@[simp] theorem State.advance_status (s : State) : (s.advance).status = s.status := rfl
@[simp] theorem State.advance_cause (s : State) : (s.advance).cause = s.cause := rfl
@[simp] theorem State.advance_epc (s : State) : (s.advance).epc = s.epc := rfl
@[simp] theorem State.advance_badvaddr (s : State) : (s.advance).badvaddr = s.badvaddr := rfl
@[simp] theorem State.advance_count (s : State) : (s.advance).count = s.count := rfl
@[simp] theorem State.advance_compare (s : State) : (s.advance).compare = s.compare := rfl
@[simp] theorem State.advance_fromhost (s : State) : (s.advance).fromhost = s.fromhost := rfl
@[simp] theorem State.advance_tohost (s : State) : (s.advance).tohost = s.tohost := rfl
@[simp] theorem State.advance_linkValid (s : State) : (s.advance).linkValid = s.linkValid := rfl
@[simp] theorem State.advance_linkAddr (s : State) : (s.advance).linkAddr = s.linkAddr := rfl
@[simp] theorem State.advance_mem (s : State) : (s.advance).mem = s.mem := rfl
@[simp] theorem State.advance_params (s : State) : (s.advance).params = s.params := rfl
@[simp] theorem State.advance_c2 (s : State) : (s.advance).c2 = s.c2 := rfl
@[simp] theorem State.advance_inputs (s : State) : (s.advance).inputs = s.inputs := rfl
@[simp] theorem State.advance_clockWait (s : State) : (s.advance).clockWait = s.clockWait := rfl
@[simp] theorem State.advance_draws (s : State) : (s.advance).draws = s.draws := rfl
@[simp] theorem State.advance_resets (s : State) : (s.advance).resets = s.resets := rfl
@[simp] theorem State.advance_readReg (s : State) (q : Reg) : (s.advance).readReg q = s.readReg q := rfl
@[simp] theorem State.advance_load8 (s : State) (p : Word) : (s.advance).load8 p = s.load8 p := rfl
@[simp] theorem State.advance_physical (s : State) (p : Word) : (s.advance).physical p = s.physical p := rfl
@[simp] theorem State.advance_addressError (s : State) (p : Word) (k : Nat) : (s.advance).addressError p k = s.addressError p k := rfl

/-! ## writeHiLo -/

@[simp] theorem State.writeHiLo_regs (s : State) (h l : Word) : (s.writeHiLo h l).regs = s.regs := rfl
@[simp] theorem State.writeHiLo_hi (s : State) (h l : Word) : (s.writeHiLo h l).hi = h := rfl
@[simp] theorem State.writeHiLo_lo (s : State) (h l : Word) : (s.writeHiLo h l).lo = l := rfl
@[simp] theorem State.writeHiLo_pc (s : State) (h l : Word) : (s.writeHiLo h l).pc = s.pc := rfl
@[simp] theorem State.writeHiLo_status (s : State) (h l : Word) : (s.writeHiLo h l).status = s.status := rfl
@[simp] theorem State.writeHiLo_cause (s : State) (h l : Word) : (s.writeHiLo h l).cause = s.cause := rfl
@[simp] theorem State.writeHiLo_epc (s : State) (h l : Word) : (s.writeHiLo h l).epc = s.epc := rfl
@[simp] theorem State.writeHiLo_badvaddr (s : State) (h l : Word) : (s.writeHiLo h l).badvaddr = s.badvaddr := rfl
@[simp] theorem State.writeHiLo_count (s : State) (h l : Word) : (s.writeHiLo h l).count = s.count := rfl
@[simp] theorem State.writeHiLo_compare (s : State) (h l : Word) : (s.writeHiLo h l).compare = s.compare := rfl
@[simp] theorem State.writeHiLo_fromhost (s : State) (h l : Word) : (s.writeHiLo h l).fromhost = s.fromhost := rfl
@[simp] theorem State.writeHiLo_tohost (s : State) (h l : Word) : (s.writeHiLo h l).tohost = s.tohost := rfl
@[simp] theorem State.writeHiLo_linkValid (s : State) (h l : Word) : (s.writeHiLo h l).linkValid = s.linkValid := rfl
@[simp] theorem State.writeHiLo_linkAddr (s : State) (h l : Word) : (s.writeHiLo h l).linkAddr = s.linkAddr := rfl
@[simp] theorem State.writeHiLo_mem (s : State) (h l : Word) : (s.writeHiLo h l).mem = s.mem := rfl
@[simp] theorem State.writeHiLo_params (s : State) (h l : Word) : (s.writeHiLo h l).params = s.params := rfl
@[simp] theorem State.writeHiLo_c2 (s : State) (h l : Word) : (s.writeHiLo h l).c2 = s.c2 := rfl
@[simp] theorem State.writeHiLo_inputs (s : State) (h l : Word) : (s.writeHiLo h l).inputs = s.inputs := rfl
@[simp] theorem State.writeHiLo_clockWait (s : State) (h l : Word) : (s.writeHiLo h l).clockWait = s.clockWait := rfl
@[simp] theorem State.writeHiLo_draws (s : State) (h l : Word) : (s.writeHiLo h l).draws = s.draws := rfl
@[simp] theorem State.writeHiLo_resets (s : State) (h l : Word) : (s.writeHiLo h l).resets = s.resets := rfl
@[simp] theorem State.writeHiLo_readReg (s : State) (h l : Word) (q : Reg) : (s.writeHiLo h l).readReg q = s.readReg q := rfl
@[simp] theorem State.writeHiLo_load8 (s : State) (h l : Word) (p : Word) : (s.writeHiLo h l).load8 p = s.load8 p := rfl
@[simp] theorem State.writeHiLo_physical (s : State) (h l : Word) (p : Word) : (s.writeHiLo h l).physical p = s.physical p := rfl
@[simp] theorem State.writeHiLo_addressError (s : State) (h l : Word) (p : Word) (k : Nat) : (s.writeHiLo h l).addressError p k = s.addressError p k := rfl

/-! ## drawn -/

@[simp] theorem State.drawn_regs (s : State) (n : Nat) : (s.drawn n).regs = s.regs := rfl
@[simp] theorem State.drawn_hi (s : State) (n : Nat) : (s.drawn n).hi = s.hi := rfl
@[simp] theorem State.drawn_lo (s : State) (n : Nat) : (s.drawn n).lo = s.lo := rfl
@[simp] theorem State.drawn_pc (s : State) (n : Nat) : (s.drawn n).pc = s.pc := rfl
@[simp] theorem State.drawn_status (s : State) (n : Nat) : (s.drawn n).status = s.status := rfl
@[simp] theorem State.drawn_cause (s : State) (n : Nat) : (s.drawn n).cause = s.cause := rfl
@[simp] theorem State.drawn_epc (s : State) (n : Nat) : (s.drawn n).epc = s.epc := rfl
@[simp] theorem State.drawn_badvaddr (s : State) (n : Nat) : (s.drawn n).badvaddr = s.badvaddr := rfl
@[simp] theorem State.drawn_count (s : State) (n : Nat) : (s.drawn n).count = s.count := rfl
@[simp] theorem State.drawn_compare (s : State) (n : Nat) : (s.drawn n).compare = s.compare := rfl
@[simp] theorem State.drawn_fromhost (s : State) (n : Nat) : (s.drawn n).fromhost = s.fromhost := rfl
@[simp] theorem State.drawn_tohost (s : State) (n : Nat) : (s.drawn n).tohost = s.tohost := rfl
@[simp] theorem State.drawn_linkValid (s : State) (n : Nat) : (s.drawn n).linkValid = s.linkValid := rfl
@[simp] theorem State.drawn_linkAddr (s : State) (n : Nat) : (s.drawn n).linkAddr = s.linkAddr := rfl
@[simp] theorem State.drawn_mem (s : State) (n : Nat) : (s.drawn n).mem = s.mem := rfl
@[simp] theorem State.drawn_params (s : State) (n : Nat) : (s.drawn n).params = s.params := rfl
@[simp] theorem State.drawn_c2 (s : State) (n : Nat) : (s.drawn n).c2 = s.c2 := rfl
@[simp] theorem State.drawn_inputs (s : State) (n : Nat) : (s.drawn n).inputs = s.inputs := rfl
@[simp] theorem State.drawn_clockWait (s : State) (n : Nat) : (s.drawn n).clockWait = s.clockWait := rfl
@[simp] theorem State.drawn_draws (s : State) (n : Nat) : (s.drawn n).draws = s.draws + n := rfl
@[simp] theorem State.drawn_resets (s : State) (n : Nat) : (s.drawn n).resets = s.resets := rfl
@[simp] theorem State.drawn_readReg (s : State) (n : Nat) (q : Reg) : (s.drawn n).readReg q = s.readReg q := rfl
@[simp] theorem State.drawn_load8 (s : State) (n : Nat) (p : Word) : (s.drawn n).load8 p = s.load8 p := rfl
@[simp] theorem State.drawn_physical (s : State) (n : Nat) (p : Word) : (s.drawn n).physical p = s.physical p := rfl
@[simp] theorem State.drawn_addressError (s : State) (n : Nat) (p : Word) (k : Nat) : (s.drawn n).addressError p k = s.addressError p k := rfl

/-! ## store8 -/

@[simp] theorem State.store8_regs (s : State) (a : Word) (b : Byte) : (s.store8 a b).regs = s.regs := rfl
@[simp] theorem State.store8_hi (s : State) (a : Word) (b : Byte) : (s.store8 a b).hi = s.hi := rfl
@[simp] theorem State.store8_lo (s : State) (a : Word) (b : Byte) : (s.store8 a b).lo = s.lo := rfl
@[simp] theorem State.store8_pc (s : State) (a : Word) (b : Byte) : (s.store8 a b).pc = s.pc := rfl
@[simp] theorem State.store8_status (s : State) (a : Word) (b : Byte) : (s.store8 a b).status = s.status := rfl
@[simp] theorem State.store8_cause (s : State) (a : Word) (b : Byte) : (s.store8 a b).cause = s.cause := rfl
@[simp] theorem State.store8_epc (s : State) (a : Word) (b : Byte) : (s.store8 a b).epc = s.epc := rfl
@[simp] theorem State.store8_badvaddr (s : State) (a : Word) (b : Byte) : (s.store8 a b).badvaddr = s.badvaddr := rfl
@[simp] theorem State.store8_count (s : State) (a : Word) (b : Byte) : (s.store8 a b).count = s.count := rfl
@[simp] theorem State.store8_compare (s : State) (a : Word) (b : Byte) : (s.store8 a b).compare = s.compare := rfl
@[simp] theorem State.store8_fromhost (s : State) (a : Word) (b : Byte) : (s.store8 a b).fromhost = s.fromhost := rfl
@[simp] theorem State.store8_tohost (s : State) (a : Word) (b : Byte) : (s.store8 a b).tohost = s.tohost := rfl
@[simp] theorem State.store8_linkValid (s : State) (a : Word) (b : Byte) : (s.store8 a b).linkValid = s.linkValid := rfl
@[simp] theorem State.store8_linkAddr (s : State) (a : Word) (b : Byte) : (s.store8 a b).linkAddr = s.linkAddr := rfl
@[simp] theorem State.store8_mem (s : State) (a : Word) (b : Byte) : (s.store8 a b).mem = s.mem.insert (s.physical a) b := rfl
@[simp] theorem State.store8_params (s : State) (a : Word) (b : Byte) : (s.store8 a b).params = s.params := rfl
@[simp] theorem State.store8_c2 (s : State) (a : Word) (b : Byte) : (s.store8 a b).c2 = s.c2 := rfl
@[simp] theorem State.store8_inputs (s : State) (a : Word) (b : Byte) : (s.store8 a b).inputs = s.inputs := rfl
@[simp] theorem State.store8_clockWait (s : State) (a : Word) (b : Byte) : (s.store8 a b).clockWait = s.clockWait := rfl
@[simp] theorem State.store8_draws (s : State) (a : Word) (b : Byte) : (s.store8 a b).draws = s.draws := rfl
@[simp] theorem State.store8_resets (s : State) (a : Word) (b : Byte) : (s.store8 a b).resets = s.resets := rfl
@[simp] theorem State.store8_readReg (s : State) (a : Word) (b : Byte) (q : Reg) : (s.store8 a b).readReg q = s.readReg q := rfl
@[simp] theorem State.store8_physical (s : State) (a : Word) (b : Byte) (p : Word) : (s.store8 a b).physical p = s.physical p := rfl
@[simp] theorem State.store8_addressError (s : State) (a : Word) (b : Byte) (p : Word) (k : Nat) : (s.store8 a b).addressError p k = s.addressError p k := rfl

/-! ## store16 -/

@[simp] theorem State.store16_regs (s : State) (a : Word) (v : Half) : (s.store16 a v).regs = s.regs := rfl
@[simp] theorem State.store16_hi (s : State) (a : Word) (v : Half) : (s.store16 a v).hi = s.hi := rfl
@[simp] theorem State.store16_lo (s : State) (a : Word) (v : Half) : (s.store16 a v).lo = s.lo := rfl
@[simp] theorem State.store16_pc (s : State) (a : Word) (v : Half) : (s.store16 a v).pc = s.pc := rfl
@[simp] theorem State.store16_status (s : State) (a : Word) (v : Half) : (s.store16 a v).status = s.status := rfl
@[simp] theorem State.store16_cause (s : State) (a : Word) (v : Half) : (s.store16 a v).cause = s.cause := rfl
@[simp] theorem State.store16_epc (s : State) (a : Word) (v : Half) : (s.store16 a v).epc = s.epc := rfl
@[simp] theorem State.store16_badvaddr (s : State) (a : Word) (v : Half) : (s.store16 a v).badvaddr = s.badvaddr := rfl
@[simp] theorem State.store16_count (s : State) (a : Word) (v : Half) : (s.store16 a v).count = s.count := rfl
@[simp] theorem State.store16_compare (s : State) (a : Word) (v : Half) : (s.store16 a v).compare = s.compare := rfl
@[simp] theorem State.store16_fromhost (s : State) (a : Word) (v : Half) : (s.store16 a v).fromhost = s.fromhost := rfl
@[simp] theorem State.store16_tohost (s : State) (a : Word) (v : Half) : (s.store16 a v).tohost = s.tohost := rfl
@[simp] theorem State.store16_linkValid (s : State) (a : Word) (v : Half) : (s.store16 a v).linkValid = s.linkValid := rfl
@[simp] theorem State.store16_linkAddr (s : State) (a : Word) (v : Half) : (s.store16 a v).linkAddr = s.linkAddr := rfl
@[simp] theorem State.store16_params (s : State) (a : Word) (v : Half) : (s.store16 a v).params = s.params := rfl
@[simp] theorem State.store16_c2 (s : State) (a : Word) (v : Half) : (s.store16 a v).c2 = s.c2 := rfl
@[simp] theorem State.store16_inputs (s : State) (a : Word) (v : Half) : (s.store16 a v).inputs = s.inputs := rfl
@[simp] theorem State.store16_clockWait (s : State) (a : Word) (v : Half) : (s.store16 a v).clockWait = s.clockWait := rfl
@[simp] theorem State.store16_draws (s : State) (a : Word) (v : Half) : (s.store16 a v).draws = s.draws := rfl
@[simp] theorem State.store16_resets (s : State) (a : Word) (v : Half) : (s.store16 a v).resets = s.resets := rfl
@[simp] theorem State.store16_readReg (s : State) (a : Word) (v : Half) (q : Reg) : (s.store16 a v).readReg q = s.readReg q := rfl
@[simp] theorem State.store16_physical (s : State) (a : Word) (v : Half) (p : Word) : (s.store16 a v).physical p = s.physical p := rfl
@[simp] theorem State.store16_addressError (s : State) (a : Word) (v : Half) (p : Word) (k : Nat) : (s.store16 a v).addressError p k = s.addressError p k := rfl

/-! ## store32 -/

@[simp] theorem State.store32_regs (s : State) (a v : Word) : (s.store32 a v).regs = s.regs := rfl
@[simp] theorem State.store32_hi (s : State) (a v : Word) : (s.store32 a v).hi = s.hi := rfl
@[simp] theorem State.store32_lo (s : State) (a v : Word) : (s.store32 a v).lo = s.lo := rfl
@[simp] theorem State.store32_pc (s : State) (a v : Word) : (s.store32 a v).pc = s.pc := rfl
@[simp] theorem State.store32_status (s : State) (a v : Word) : (s.store32 a v).status = s.status := rfl
@[simp] theorem State.store32_cause (s : State) (a v : Word) : (s.store32 a v).cause = s.cause := rfl
@[simp] theorem State.store32_epc (s : State) (a v : Word) : (s.store32 a v).epc = s.epc := rfl
@[simp] theorem State.store32_badvaddr (s : State) (a v : Word) : (s.store32 a v).badvaddr = s.badvaddr := rfl
@[simp] theorem State.store32_count (s : State) (a v : Word) : (s.store32 a v).count = s.count := rfl
@[simp] theorem State.store32_compare (s : State) (a v : Word) : (s.store32 a v).compare = s.compare := rfl
@[simp] theorem State.store32_fromhost (s : State) (a v : Word) : (s.store32 a v).fromhost = s.fromhost := rfl
@[simp] theorem State.store32_tohost (s : State) (a v : Word) : (s.store32 a v).tohost = s.tohost := rfl
@[simp] theorem State.store32_linkValid (s : State) (a v : Word) : (s.store32 a v).linkValid = s.linkValid := rfl
@[simp] theorem State.store32_linkAddr (s : State) (a v : Word) : (s.store32 a v).linkAddr = s.linkAddr := rfl
@[simp] theorem State.store32_params (s : State) (a v : Word) : (s.store32 a v).params = s.params := rfl
@[simp] theorem State.store32_c2 (s : State) (a v : Word) : (s.store32 a v).c2 = s.c2 := rfl
@[simp] theorem State.store32_inputs (s : State) (a v : Word) : (s.store32 a v).inputs = s.inputs := rfl
@[simp] theorem State.store32_clockWait (s : State) (a v : Word) : (s.store32 a v).clockWait = s.clockWait := rfl
@[simp] theorem State.store32_draws (s : State) (a v : Word) : (s.store32 a v).draws = s.draws := rfl
@[simp] theorem State.store32_resets (s : State) (a v : Word) : (s.store32 a v).resets = s.resets := rfl
@[simp] theorem State.store32_readReg (s : State) (a v : Word) (q : Reg) : (s.store32 a v).readReg q = s.readReg q := rfl
@[simp] theorem State.store32_physical (s : State) (a v : Word) (p : Word) : (s.store32 a v).physical p = s.physical p := rfl
@[simp] theorem State.store32_addressError (s : State) (a v : Word) (p : Word) (k : Nat) : (s.store32 a v).addressError p k = s.addressError p k := rfl

/-! ## trapEntry -/

@[simp] theorem State.trapEntry_regs (s : State) (e : Exc) : (s.trapEntry e).regs = s.regs := rfl
@[simp] theorem State.trapEntry_hi (s : State) (e : Exc) : (s.trapEntry e).hi = s.hi := rfl
@[simp] theorem State.trapEntry_lo (s : State) (e : Exc) : (s.trapEntry e).lo = s.lo := rfl
@[simp] theorem State.trapEntry_pc (s : State) (e : Exc) : (s.trapEntry e).pc = Config.exceptionVector := rfl
@[simp] theorem State.trapEntry_status (s : State) (e : Exc) : (s.trapEntry e).status = s.status.push := rfl
@[simp] theorem State.trapEntry_cause (s : State) (e : Exc) : (s.trapEntry e).cause = { s.cause with excCode := e.code } := rfl
@[simp] theorem State.trapEntry_epc (s : State) (e : Exc) : (s.trapEntry e).epc = s.pc := rfl
@[simp] theorem State.trapEntry_badvaddr (s : State) (e : Exc) : (s.trapEntry e).badvaddr = e.badvaddr s.any32 := rfl
@[simp] theorem State.trapEntry_count (s : State) (e : Exc) : (s.trapEntry e).count = s.count := rfl
@[simp] theorem State.trapEntry_compare (s : State) (e : Exc) : (s.trapEntry e).compare = s.compare := rfl
@[simp] theorem State.trapEntry_fromhost (s : State) (e : Exc) : (s.trapEntry e).fromhost = s.fromhost := rfl
@[simp] theorem State.trapEntry_tohost (s : State) (e : Exc) : (s.trapEntry e).tohost = s.tohost := rfl
@[simp] theorem State.trapEntry_linkValid (s : State) (e : Exc) : (s.trapEntry e).linkValid = false := rfl
@[simp] theorem State.trapEntry_linkAddr (s : State) (e : Exc) : (s.trapEntry e).linkAddr = s.linkAddr := rfl
@[simp] theorem State.trapEntry_mem (s : State) (e : Exc) : (s.trapEntry e).mem = s.mem := rfl
@[simp] theorem State.trapEntry_params (s : State) (e : Exc) : (s.trapEntry e).params = s.params := rfl
@[simp] theorem State.trapEntry_c2 (s : State) (e : Exc) : (s.trapEntry e).c2 = s.c2 := rfl
@[simp] theorem State.trapEntry_inputs (s : State) (e : Exc) : (s.trapEntry e).inputs = s.inputs := rfl
@[simp] theorem State.trapEntry_clockWait (s : State) (e : Exc) : (s.trapEntry e).clockWait = s.clockWait := rfl
@[simp] theorem State.trapEntry_draws (s : State) (e : Exc) : (s.trapEntry e).draws = s.draws + 1 := rfl
@[simp] theorem State.trapEntry_resets (s : State) (e : Exc) : (s.trapEntry e).resets = s.resets := rfl
@[simp] theorem State.trapEntry_readReg (s : State) (e : Exc) (q : Reg) : (s.trapEntry e).readReg q = s.readReg q := rfl
@[simp] theorem State.trapEntry_load8 (s : State) (e : Exc) (p : Word) : (s.trapEntry e).load8 p = s.load8 p := rfl
@[simp] theorem State.trapEntry_physical (s : State) (e : Exc) (p : Word) : (s.trapEntry e).physical p = s.physical p := rfl

/-! ## returnFromException -/

@[simp] theorem State.returnFromException_regs (s : State) : (s.returnFromException).regs = s.regs := rfl
@[simp] theorem State.returnFromException_hi (s : State) : (s.returnFromException).hi = s.hi := rfl
@[simp] theorem State.returnFromException_lo (s : State) : (s.returnFromException).lo = s.lo := rfl
@[simp] theorem State.returnFromException_pc (s : State) : (s.returnFromException).pc = s.epc := rfl
@[simp] theorem State.returnFromException_status (s : State) : (s.returnFromException).status = s.status.pop := rfl
@[simp] theorem State.returnFromException_cause (s : State) : (s.returnFromException).cause = s.cause := rfl
@[simp] theorem State.returnFromException_epc (s : State) : (s.returnFromException).epc = s.epc := rfl
@[simp] theorem State.returnFromException_badvaddr (s : State) : (s.returnFromException).badvaddr = s.badvaddr := rfl
@[simp] theorem State.returnFromException_count (s : State) : (s.returnFromException).count = s.count := rfl
@[simp] theorem State.returnFromException_compare (s : State) : (s.returnFromException).compare = s.compare := rfl
@[simp] theorem State.returnFromException_fromhost (s : State) : (s.returnFromException).fromhost = s.fromhost := rfl
@[simp] theorem State.returnFromException_tohost (s : State) : (s.returnFromException).tohost = s.tohost := rfl
@[simp] theorem State.returnFromException_linkValid (s : State) : (s.returnFromException).linkValid = s.linkValid := rfl
@[simp] theorem State.returnFromException_linkAddr (s : State) : (s.returnFromException).linkAddr = s.linkAddr := rfl
@[simp] theorem State.returnFromException_mem (s : State) : (s.returnFromException).mem = s.mem := rfl
@[simp] theorem State.returnFromException_params (s : State) : (s.returnFromException).params = s.params := rfl
@[simp] theorem State.returnFromException_c2 (s : State) : (s.returnFromException).c2 = s.c2 := rfl
@[simp] theorem State.returnFromException_inputs (s : State) : (s.returnFromException).inputs = s.inputs := rfl
@[simp] theorem State.returnFromException_clockWait (s : State) : (s.returnFromException).clockWait = s.clockWait := rfl
@[simp] theorem State.returnFromException_draws (s : State) : (s.returnFromException).draws = s.draws := rfl
@[simp] theorem State.returnFromException_resets (s : State) : (s.returnFromException).resets = s.resets := rfl
@[simp] theorem State.returnFromException_readReg (s : State) (q : Reg) : (s.returnFromException).readReg q = s.readReg q := rfl
@[simp] theorem State.returnFromException_load8 (s : State) (p : Word) : (s.returnFromException).load8 p = s.load8 p := rfl
@[simp] theorem State.returnFromException_physical (s : State) (p : Word) : (s.returnFromException).physical p = s.physical p := rfl

/-! ## writeC2 -/

@[simp] theorem State.writeC2_regs (s : State) (c : Nat) : (s.writeC2 c).regs = s.regs := rfl
@[simp] theorem State.writeC2_hi (s : State) (c : Nat) : (s.writeC2 c).hi = s.hi := rfl
@[simp] theorem State.writeC2_lo (s : State) (c : Nat) : (s.writeC2 c).lo = s.lo := rfl
@[simp] theorem State.writeC2_pc (s : State) (c : Nat) : (s.writeC2 c).pc = s.pc := rfl
@[simp] theorem State.writeC2_status (s : State) (c : Nat) : (s.writeC2 c).status = s.status := rfl
@[simp] theorem State.writeC2_cause (s : State) (c : Nat) : (s.writeC2 c).cause = s.cause := rfl
@[simp] theorem State.writeC2_epc (s : State) (c : Nat) : (s.writeC2 c).epc = s.epc := rfl
@[simp] theorem State.writeC2_badvaddr (s : State) (c : Nat) : (s.writeC2 c).badvaddr = s.badvaddr := rfl
@[simp] theorem State.writeC2_count (s : State) (c : Nat) : (s.writeC2 c).count = s.count := rfl
@[simp] theorem State.writeC2_compare (s : State) (c : Nat) : (s.writeC2 c).compare = s.compare := rfl
@[simp] theorem State.writeC2_fromhost (s : State) (c : Nat) : (s.writeC2 c).fromhost = s.fromhost := rfl
@[simp] theorem State.writeC2_tohost (s : State) (c : Nat) : (s.writeC2 c).tohost = s.tohost := rfl
@[simp] theorem State.writeC2_linkValid (s : State) (c : Nat) : (s.writeC2 c).linkValid = s.linkValid := rfl
@[simp] theorem State.writeC2_linkAddr (s : State) (c : Nat) : (s.writeC2 c).linkAddr = s.linkAddr := rfl
@[simp] theorem State.writeC2_mem (s : State) (c : Nat) : (s.writeC2 c).mem = s.mem := rfl
@[simp] theorem State.writeC2_params (s : State) (c : Nat) : (s.writeC2 c).params = s.params := rfl
@[simp] theorem State.writeC2_c2 (s : State) (c : Nat) : (s.writeC2 c).c2 = c := rfl
@[simp] theorem State.writeC2_inputs (s : State) (c : Nat) : (s.writeC2 c).inputs = s.inputs := rfl
@[simp] theorem State.writeC2_clockWait (s : State) (c : Nat) : (s.writeC2 c).clockWait = s.clockWait := rfl
@[simp] theorem State.writeC2_draws (s : State) (c : Nat) : (s.writeC2 c).draws = s.draws := rfl
@[simp] theorem State.writeC2_resets (s : State) (c : Nat) : (s.writeC2 c).resets = s.resets := rfl
@[simp] theorem State.writeC2_readReg (s : State) (c : Nat) (q : Reg) : (s.writeC2 c).readReg q = s.readReg q := rfl
@[simp] theorem State.writeC2_load8 (s : State) (c : Nat) (p : Word) : (s.writeC2 c).load8 p = s.load8 p := rfl
@[simp] theorem State.writeC2_physical (s : State) (c : Nat) (p : Word) : (s.writeC2 c).physical p = s.physical p := rfl
@[simp] theorem State.writeC2_addressError (s : State) (c : Nat) (p : Word) (k : Nat) : (s.writeC2 c).addressError p k = s.addressError p k := rfl

/-! ## tick -/

@[simp] theorem State.tick_regs (s : State) : (s.tick).regs = s.regs := rfl
@[simp] theorem State.tick_hi (s : State) : (s.tick).hi = s.hi := rfl
@[simp] theorem State.tick_lo (s : State) : (s.tick).lo = s.lo := rfl
@[simp] theorem State.tick_pc (s : State) : (s.tick).pc = s.pc := rfl
@[simp] theorem State.tick_status (s : State) : (s.tick).status = s.status := rfl
@[simp] theorem State.tick_cause (s : State) : (s.tick).cause = { s.cause with ip7 := s.cause.ip7 || s.count + 1#32 == s.compare } := rfl
@[simp] theorem State.tick_epc (s : State) : (s.tick).epc = s.epc := rfl
@[simp] theorem State.tick_badvaddr (s : State) : (s.tick).badvaddr = s.badvaddr := rfl
@[simp] theorem State.tick_count (s : State) : (s.tick).count = s.count + 1#32 := rfl
@[simp] theorem State.tick_compare (s : State) : (s.tick).compare = s.compare := rfl
@[simp] theorem State.tick_fromhost (s : State) : (s.tick).fromhost = s.fromhost := rfl
@[simp] theorem State.tick_tohost (s : State) : (s.tick).tohost = s.tohost := rfl
@[simp] theorem State.tick_linkValid (s : State) : (s.tick).linkValid = s.linkValid := rfl
@[simp] theorem State.tick_linkAddr (s : State) : (s.tick).linkAddr = s.linkAddr := rfl
@[simp] theorem State.tick_mem (s : State) : (s.tick).mem = s.mem := rfl
@[simp] theorem State.tick_params (s : State) : (s.tick).params = s.params := rfl
@[simp] theorem State.tick_c2 (s : State) : (s.tick).c2 = s.c2 := rfl
@[simp] theorem State.tick_inputs (s : State) : (s.tick).inputs = s.inputs := rfl
@[simp] theorem State.tick_clockWait (s : State) : (s.tick).clockWait = s.clockWait := rfl
@[simp] theorem State.tick_draws (s : State) : (s.tick).draws = s.draws := rfl
@[simp] theorem State.tick_resets (s : State) : (s.tick).resets = s.resets := rfl
@[simp] theorem State.tick_readReg (s : State) (q : Reg) : (s.tick).readReg q = s.readReg q := rfl
@[simp] theorem State.tick_load8 (s : State) (p : Word) : (s.tick).load8 p = s.load8 p := rfl
@[simp] theorem State.tick_physical (s : State) (p : Word) : (s.tick).physical p = s.physical p := rfl
@[simp] theorem State.tick_addressError (s : State) (p : Word) (k : Nat) : (s.tick).addressError p k = s.addressError p k := rfl

/-! ## ticks -/

@[simp] theorem State.ticks_regs (s : State) (n : Nat) : (s.ticks n).regs = s.regs := rfl
@[simp] theorem State.ticks_hi (s : State) (n : Nat) : (s.ticks n).hi = s.hi := rfl
@[simp] theorem State.ticks_lo (s : State) (n : Nat) : (s.ticks n).lo = s.lo := rfl
@[simp] theorem State.ticks_pc (s : State) (n : Nat) : (s.ticks n).pc = s.pc := rfl
@[simp] theorem State.ticks_status (s : State) (n : Nat) : (s.ticks n).status = s.status := rfl
@[simp] theorem State.ticks_cause (s : State) (n : Nat) : (s.ticks n).cause = { s.cause with ip7 := s.cause.ip7 || decide ((s.compare - s.count - 1#32).toNat < n) } := rfl
@[simp] theorem State.ticks_epc (s : State) (n : Nat) : (s.ticks n).epc = s.epc := rfl
@[simp] theorem State.ticks_badvaddr (s : State) (n : Nat) : (s.ticks n).badvaddr = s.badvaddr := rfl
@[simp] theorem State.ticks_count (s : State) (n : Nat) : (s.ticks n).count = s.count + BitVec.ofNat 32 n := rfl
@[simp] theorem State.ticks_compare (s : State) (n : Nat) : (s.ticks n).compare = s.compare := rfl
@[simp] theorem State.ticks_fromhost (s : State) (n : Nat) : (s.ticks n).fromhost = s.fromhost := rfl
@[simp] theorem State.ticks_tohost (s : State) (n : Nat) : (s.ticks n).tohost = s.tohost := rfl
@[simp] theorem State.ticks_linkValid (s : State) (n : Nat) : (s.ticks n).linkValid = s.linkValid := rfl
@[simp] theorem State.ticks_linkAddr (s : State) (n : Nat) : (s.ticks n).linkAddr = s.linkAddr := rfl
@[simp] theorem State.ticks_mem (s : State) (n : Nat) : (s.ticks n).mem = s.mem := rfl
@[simp] theorem State.ticks_params (s : State) (n : Nat) : (s.ticks n).params = s.params := rfl
@[simp] theorem State.ticks_c2 (s : State) (n : Nat) : (s.ticks n).c2 = s.c2 := rfl
@[simp] theorem State.ticks_inputs (s : State) (n : Nat) : (s.ticks n).inputs = s.inputs := rfl
@[simp] theorem State.ticks_clockWait (s : State) (n : Nat) : (s.ticks n).clockWait = s.clockWait := rfl
@[simp] theorem State.ticks_draws (s : State) (n : Nat) : (s.ticks n).draws = s.draws := rfl
@[simp] theorem State.ticks_resets (s : State) (n : Nat) : (s.ticks n).resets = s.resets := rfl
@[simp] theorem State.ticks_readReg (s : State) (n : Nat) (q : Reg) : (s.ticks n).readReg q = s.readReg q := rfl
@[simp] theorem State.ticks_load8 (s : State) (n : Nat) (p : Word) : (s.ticks n).load8 p = s.load8 p := rfl
@[simp] theorem State.ticks_physical (s : State) (n : Nat) (p : Word) : (s.ticks n).physical p = s.physical p := rfl
@[simp] theorem State.ticks_addressError (s : State) (n : Nat) (p : Word) (k : Nat) : (s.ticks n).addressError p k = s.addressError p k := rfl

/-! ## freeClock -/

@[simp] theorem State.freeClock_regs (s : State) : (s.freeClock).regs = s.regs := rfl
@[simp] theorem State.freeClock_hi (s : State) : (s.freeClock).hi = s.hi := rfl
@[simp] theorem State.freeClock_lo (s : State) : (s.freeClock).lo = s.lo := rfl
@[simp] theorem State.freeClock_pc (s : State) : (s.freeClock).pc = s.pc := rfl
@[simp] theorem State.freeClock_status (s : State) : (s.freeClock).status = s.status := rfl
@[simp] theorem State.freeClock_cause (s : State) : (s.freeClock).cause = (s.ticks s.freeTicks).cause := rfl
@[simp] theorem State.freeClock_epc (s : State) : (s.freeClock).epc = s.epc := rfl
@[simp] theorem State.freeClock_badvaddr (s : State) : (s.freeClock).badvaddr = s.badvaddr := rfl
@[simp] theorem State.freeClock_count (s : State) : (s.freeClock).count = s.count + BitVec.ofNat 32 s.freeTicks := rfl
@[simp] theorem State.freeClock_compare (s : State) : (s.freeClock).compare = s.compare := rfl
@[simp] theorem State.freeClock_fromhost (s : State) : (s.freeClock).fromhost = s.fromhost := rfl
@[simp] theorem State.freeClock_tohost (s : State) : (s.freeClock).tohost = s.tohost := rfl
@[simp] theorem State.freeClock_linkValid (s : State) : (s.freeClock).linkValid = s.linkValid := rfl
@[simp] theorem State.freeClock_linkAddr (s : State) : (s.freeClock).linkAddr = s.linkAddr := rfl
@[simp] theorem State.freeClock_mem (s : State) : (s.freeClock).mem = s.mem := rfl
@[simp] theorem State.freeClock_params (s : State) : (s.freeClock).params = s.params := rfl
@[simp] theorem State.freeClock_c2 (s : State) : (s.freeClock).c2 = s.c2 := rfl
@[simp] theorem State.freeClock_inputs (s : State) : (s.freeClock).inputs = s.inputs := rfl
@[simp] theorem State.freeClock_clockWait (s : State) : (s.freeClock).clockWait = s.freeWait := rfl
@[simp] theorem State.freeClock_draws (s : State) : (s.freeClock).draws = s.freeDraws := rfl
@[simp] theorem State.freeClock_resets (s : State) : (s.freeClock).resets = s.resets := rfl
@[simp] theorem State.freeClock_readReg (s : State) (q : Reg) : (s.freeClock).readReg q = s.readReg q := rfl
@[simp] theorem State.freeClock_load8 (s : State) (p : Word) : (s.freeClock).load8 p = s.load8 p := rfl
@[simp] theorem State.freeClock_physical (s : State) (p : Word) : (s.freeClock).physical p = s.physical p := rfl
@[simp] theorem State.freeClock_addressError (s : State) (p : Word) (k : Nat) : (s.freeClock).addressError p k = s.addressError p k := rfl

end Sys2Proof.Machine
end

