-- ==== Sys2Proof/Laws/Cop0.lean ====
section
/-! SUPPORT. What each bit of the two CP0 registers with fields reads as (10_state.md R37, R42), and when the
coprocessors refuse. -/

namespace Sys2Proof.Machine

/-- Every bit of the word MFC0 reads from `status` (R37). -/
theorem statusWord_getLsbD (st : Status) (im50 : BitVec 6) (k : Nat) :
    (statusWord st im50).getLsbD k =
      if k = 0 then st.iec else if k = 1 then st.kuc else if k = 2 then st.iep else if k = 3 then st.kup
      else if k = 4 then st.ieo else if k = 5 then st.kuo else if k < 8 then false
      else if k < 14 then im50.getLsbD (k - 8) else if k = 14 then st.im6 else if k = 15 then st.im7
      else if k = 28 then st.cu0 else false := by
  by_cases hk : k < 32
  · interval_cases k <;>
      simp [-BitVec.getLsbD_eq_getElem, statusWord,
        BitVec.getLsbD_append (n := 3) (m := 29), BitVec.getLsbD_append (n := 1) (m := 28),
        BitVec.getLsbD_append (n := 12) (m := 16), BitVec.getLsbD_append (n := 1) (m := 15),
        BitVec.getLsbD_append (n := 1) (m := 14), BitVec.getLsbD_append (n := 6) (m := 8),
        BitVec.getLsbD_append (n := 2) (m := 6), BitVec.getLsbD_append (n := 1) (m := 5),
        BitVec.getLsbD_append (n := 1) (m := 4), BitVec.getLsbD_append (n := 1) (m := 3),
        BitVec.getLsbD_append (n := 1) (m := 2), BitVec.getLsbD_append (n := 1) (m := 1)]
  · rw [BitVec.getLsbD_of_ge _ _ (by omega)]
    simp (disch := omega) only [if_neg]

/-- Every bit of the word MFC0 reads from `cause` (R42). -/
theorem causeWord_getLsbD (c : Cause) (ip50 : BitVec 6) (k : Nat) :
    (causeWord c ip50).getLsbD k =
      if k < 2 then false else if k < 7 then c.excCode.getLsbD (k - 2) else if k = 7 then false
      else if k < 14 then ip50.getLsbD (k - 8) else if k = 14 then c.ip6 else if k = 15 then c.ip7 else false := by
  by_cases hk : k < 32
  · interval_cases k <;>
      simp [-BitVec.getLsbD_eq_getElem, causeWord,
        BitVec.getLsbD_append (n := 16) (m := 16), BitVec.getLsbD_append (n := 1) (m := 15),
        BitVec.getLsbD_append (n := 1) (m := 14), BitVec.getLsbD_append (n := 6) (m := 8),
        BitVec.getLsbD_append (n := 1) (m := 7), BitVec.getLsbD_append (n := 5) (m := 2)]
  · rw [BitVec.getLsbD_of_ge _ _ (by omega)]
    simp (disch := omega) only [if_neg]

/-- When CP0 is refused: user mode with CU0 clear (R31). -/
theorem State.cop0Refused_iff (s : State) : s.cop0Refused = true ↔ s.status.kuc = true ∧ s.status.cu0 = false := by
  simp [State.cop0Refused, State.kernelMode]

/-- When Coprocessor 2 is refused: it is absent, or user mode may not use it (46_cop2.md R280, R288). -/
theorem State.cop2Refused_iff (s : State) :
    s.cop2Refused = true ↔ s.params.hasCop2 = false ∨ (s.status.kuc = true ∧ Config.c2UserUsable = false) := by
  simp [State.cop2Refused, State.kernelMode]

end Sys2Proof.Machine
end

