-- ==== Sys2Proof/Laws/Decode.lean ====
section
/-! SUPPORT. The fields of an encoded word are the fields it was encoded from, and a word is encoded from its own
fields: the facts with which decoding and encoding are compared (30_encoding.md R111 to R114). -/

namespace Sys2Proof

/-- The high part of a concatenation. -/
theorem extract_high {v w : Nat} (x : BitVec v) (y : BitVec w) : (x ++ y).extractLsb' w v = x :=
  (BitVec.extractLsb'_append_eq_of_le (Nat.le_refl w)).trans (by simp)

/-- A part of the low part of a concatenation. -/
theorem extract_low {v w : Nat} (x : BitVec v) (y : BitVec w) (start len : Nat) (h : start + len ≤ w) :
    (x ++ y).extractLsb' start len = y.extractLsb' start len := BitVec.extractLsb'_append_eq_of_add_le h

/-- Two adjacent parts of a word are one part. -/
theorem append_extracts (x : Word) (start low high : Nat) :
    x.extractLsb' (start + low) high ++ x.extractLsb' start low = x.extractLsb' start (high + low) :=
  BitVec.extractLsb'_append_extractLsb'_eq_extractLsb' rfl

/-! ## R-type words -/

@[simp] theorem fieldOpcode_encodeR (op : BitVec 6) (rs : BitVec 5) (rt : BitVec 5) (rd : BitVec 5) (sh : BitVec 5) (funct : BitVec 6) :
    fieldOpcode (encodeR op rs rt rd sh funct) = op :=
  extract_high (v := 6) (w := 26) _ _

@[simp] theorem fieldRs_encodeR (op : BitVec 6) (rs : BitVec 5) (rt : BitVec 5) (rd : BitVec 5) (sh : BitVec 5) (funct : BitVec 6) :
    fieldRs (encodeR op rs rt rd sh funct) = rs :=
  (extract_low (v := 6) (w := 26) _ _ 21 5 (by decide)).trans (extract_high (v := 5) (w := 21) _ _)

@[simp] theorem fieldRt_encodeR (op : BitVec 6) (rs : BitVec 5) (rt : BitVec 5) (rd : BitVec 5) (sh : BitVec 5) (funct : BitVec 6) :
    fieldRt (encodeR op rs rt rd sh funct) = rt :=
  (extract_low (v := 6) (w := 26) _ _ 16 5 (by decide)).trans ((extract_low (v := 5) (w := 21) _ _ 16 5 (by decide)).trans (extract_high (v := 5) (w := 16) _ _))

@[simp] theorem fieldRd_encodeR (op : BitVec 6) (rs : BitVec 5) (rt : BitVec 5) (rd : BitVec 5) (sh : BitVec 5) (funct : BitVec 6) :
    fieldRd (encodeR op rs rt rd sh funct) = rd :=
  (extract_low (v := 6) (w := 26) _ _ 11 5 (by decide)).trans ((extract_low (v := 5) (w := 21) _ _ 11 5 (by decide)).trans ((extract_low (v := 5) (w := 16) _ _ 11 5 (by decide)).trans (extract_high (v := 5) (w := 11) _ _)))

@[simp] theorem fieldShamt_encodeR (op : BitVec 6) (rs : BitVec 5) (rt : BitVec 5) (rd : BitVec 5) (sh : BitVec 5) (funct : BitVec 6) :
    fieldShamt (encodeR op rs rt rd sh funct) = sh :=
  (extract_low (v := 6) (w := 26) _ _ 6 5 (by decide)).trans ((extract_low (v := 5) (w := 21) _ _ 6 5 (by decide)).trans ((extract_low (v := 5) (w := 16) _ _ 6 5 (by decide)).trans ((extract_low (v := 5) (w := 11) _ _ 6 5 (by decide)).trans (extract_high (v := 5) (w := 6) _ _))))

@[simp] theorem fieldFunct_encodeR (op : BitVec 6) (rs : BitVec 5) (rt : BitVec 5) (rd : BitVec 5) (sh : BitVec 5) (funct : BitVec 6) :
    fieldFunct (encodeR op rs rt rd sh funct) = funct :=
  (extract_low (v := 6) (w := 26) _ _ 0 6 (by decide)).trans ((extract_low (v := 5) (w := 21) _ _ 0 6 (by decide)).trans ((extract_low (v := 5) (w := 16) _ _ 0 6 (by decide)).trans ((extract_low (v := 5) (w := 11) _ _ 0 6 (by decide)).trans ((extract_low (v := 5) (w := 6) _ _ 0 6 (by decide)).trans BitVec.extractLsb'_eq_self))))

/-- A word is encoded from its own fields. -/
theorem encodeR_fields (w : Word) : encodeR (fieldOpcode w) (fieldRs w) (fieldRt w) (fieldRd w) (fieldShamt w) (fieldFunct w) = w := by
  have e4 : fieldShamt w ++ (fieldFunct w) = w.extractLsb' 0 11 := append_extracts w 0 6 5
  have e3 : fieldRd w ++ (w.extractLsb' 0 11) = w.extractLsb' 0 16 := append_extracts w 0 11 5
  have e2 : fieldRt w ++ (w.extractLsb' 0 16) = w.extractLsb' 0 21 := append_extracts w 0 16 5
  have e1 : fieldRs w ++ (w.extractLsb' 0 21) = w.extractLsb' 0 26 := append_extracts w 0 21 5
  have e0 : fieldOpcode w ++ (w.extractLsb' 0 26) = w.extractLsb' 0 32 := append_extracts w 0 26 6
  exact ((congrArg (fun x : BitVec 26 => fieldOpcode w ++ x) ((congrArg (fun x : BitVec 21 => fieldRs w ++ x) ((congrArg (fun x : BitVec 16 => fieldRt w ++ x) ((congrArg (fun x : BitVec 11 => fieldRd w ++ x) e4).trans e3)).trans e2)).trans e1)).trans e0).trans BitVec.extractLsb'_eq_self

/-! ## I-type words -/

@[simp] theorem fieldOpcode_encodeI (op : BitVec 6) (rs : BitVec 5) (rt : BitVec 5) (imm : Half) :
    fieldOpcode (encodeI op rs rt imm) = op :=
  extract_high (v := 6) (w := 26) _ _

@[simp] theorem fieldRs_encodeI (op : BitVec 6) (rs : BitVec 5) (rt : BitVec 5) (imm : Half) :
    fieldRs (encodeI op rs rt imm) = rs :=
  (extract_low (v := 6) (w := 26) _ _ 21 5 (by decide)).trans (extract_high (v := 5) (w := 21) _ _)

@[simp] theorem fieldRt_encodeI (op : BitVec 6) (rs : BitVec 5) (rt : BitVec 5) (imm : Half) :
    fieldRt (encodeI op rs rt imm) = rt :=
  (extract_low (v := 6) (w := 26) _ _ 16 5 (by decide)).trans ((extract_low (v := 5) (w := 21) _ _ 16 5 (by decide)).trans (extract_high (v := 5) (w := 16) _ _))

@[simp] theorem fieldImm_encodeI (op : BitVec 6) (rs : BitVec 5) (rt : BitVec 5) (imm : Half) :
    fieldImm (encodeI op rs rt imm) = imm :=
  (extract_low (v := 6) (w := 26) _ _ 0 16 (by decide)).trans ((extract_low (v := 5) (w := 21) _ _ 0 16 (by decide)).trans ((extract_low (v := 5) (w := 16) _ _ 0 16 (by decide)).trans BitVec.extractLsb'_eq_self))

/-- A word is encoded from its own fields. -/
theorem encodeI_fields (w : Word) : encodeI (fieldOpcode w) (fieldRs w) (fieldRt w) (fieldImm w) = w := by
  have e2 : fieldRt w ++ (fieldImm w) = w.extractLsb' 0 21 := append_extracts w 0 16 5
  have e1 : fieldRs w ++ (w.extractLsb' 0 21) = w.extractLsb' 0 26 := append_extracts w 0 21 5
  have e0 : fieldOpcode w ++ (w.extractLsb' 0 26) = w.extractLsb' 0 32 := append_extracts w 0 26 6
  exact ((congrArg (fun x : BitVec 26 => fieldOpcode w ++ x) ((congrArg (fun x : BitVec 21 => fieldRs w ++ x) e2).trans e1)).trans e0).trans BitVec.extractLsb'_eq_self

/-! ## J-type words -/

@[simp] theorem fieldOpcode_encodeJ (op : BitVec 6) (target : BitVec 26) :
    fieldOpcode (encodeJ op target) = op :=
  extract_high (v := 6) (w := 26) _ _

@[simp] theorem fieldTarget_encodeJ (op : BitVec 6) (target : BitVec 26) :
    fieldTarget (encodeJ op target) = target :=
  (extract_low (v := 6) (w := 26) _ _ 0 26 (by decide)).trans BitVec.extractLsb'_eq_self

/-- A word is encoded from its own fields. -/
theorem encodeJ_fields (w : Word) : encodeJ (fieldOpcode w) (fieldTarget w) = w := by
  have e0 : fieldOpcode w ++ (fieldTarget w) = w.extractLsb' 0 32 := append_extracts w 0 26 6
  exact e0.trans BitVec.extractLsb'_eq_self

/-! ## SYSCALL, BREAK and SYNC words -/

@[simp] theorem fieldOpcode_encodeCode (code : BitVec 20) (funct : BitVec 6) :
    fieldOpcode (encodeCode code funct) = 0x00#6 :=
  extract_high (v := 6) (w := 26) _ _

@[simp] theorem fieldCode_encodeCode (code : BitVec 20) (funct : BitVec 6) :
    fieldCode (encodeCode code funct) = code :=
  (extract_low (v := 6) (w := 26) _ _ 6 20 (by decide)).trans (extract_high (v := 20) (w := 6) _ _)

@[simp] theorem fieldFunct_encodeCode (code : BitVec 20) (funct : BitVec 6) :
    fieldFunct (encodeCode code funct) = funct :=
  (extract_low (v := 6) (w := 26) _ _ 0 6 (by decide)).trans ((extract_low (v := 20) (w := 6) _ _ 0 6 (by decide)).trans BitVec.extractLsb'_eq_self)

/-- A word is encoded from its own fields. -/
theorem encodeCode_fields (w : Word) (hop0 : fieldOpcode w = 0x00#6) : encodeCode (fieldCode w) (fieldFunct w) = w := by
  have e1 : fieldCode w ++ (fieldFunct w) = w.extractLsb' 0 26 := append_extracts w 0 6 20
  have e0 : fieldOpcode w ++ (w.extractLsb' 0 26) = w.extractLsb' 0 32 := append_extracts w 0 26 6
  have full : (fieldOpcode w ++ (fieldCode w ++ (fieldFunct w)) : Word) = w := ((congrArg (fun x : BitVec 26 => fieldOpcode w ++ x) e1).trans e0).trans BitVec.extractLsb'_eq_self
  rw [hop0] at full
  exact full

/-! ## coprocessor operation words -/

@[simp] theorem fieldOpcode_encodeCo (op : BitVec 6) (copfunc : BitVec 25) :
    fieldOpcode (encodeCo op copfunc) = op :=
  extract_high (v := 6) (w := 26) _ _

@[simp] theorem fieldCo_encodeCo (op : BitVec 6) (copfunc : BitVec 25) :
    fieldCo (encodeCo op copfunc) = 1#1 :=
  (extract_low (v := 6) (w := 26) _ _ 25 1 (by decide)).trans (extract_high (v := 1) (w := 25) _ _)

@[simp] theorem fieldCopfunc_encodeCo (op : BitVec 6) (copfunc : BitVec 25) :
    fieldCopfunc (encodeCo op copfunc) = copfunc :=
  (extract_low (v := 6) (w := 26) _ _ 0 25 (by decide)).trans ((extract_low (v := 1) (w := 25) _ _ 0 25 (by decide)).trans BitVec.extractLsb'_eq_self)

/-- A word is encoded from its own fields. -/
theorem encodeCo_fields (w : Word) (hco1 : fieldCo w = 1#1) : encodeCo (fieldOpcode w) (fieldCopfunc w) = w := by
  have e1 : fieldCo w ++ (fieldCopfunc w) = w.extractLsb' 0 26 := append_extracts w 0 25 1
  have e0 : fieldOpcode w ++ (w.extractLsb' 0 26) = w.extractLsb' 0 32 := append_extracts w 0 26 6
  have full : (fieldOpcode w ++ (fieldCo w ++ (fieldCopfunc w)) : Word) = w := ((congrArg (fun x : BitVec 26 => fieldOpcode w ++ x) e1).trans e0).trans BitVec.extractLsb'_eq_self
  rw [hco1] at full
  exact full

/-- Bit 25 is the top bit of the `rs` field. -/
theorem fieldCo_eq (w : Word) : fieldCo w = (fieldRs w).extractLsb' 4 1 := by
  apply BitVec.eq_of_getLsbD_eq
  intro i hi
  have : i = 0 := by omega
  subst this
  simp [fieldCo, fieldRs]

/-- The code field of SYSCALL and BREAK is made of the four fields above the function. -/
theorem fieldCode_eq (w : Word) : fieldCode w = fieldRs w ++ (fieldRt w ++ (fieldRd w ++ fieldShamt w)) := by
  have e2 : fieldRd w ++ fieldShamt w = w.extractLsb' 6 10 := append_extracts w 6 5 5
  have e1 : fieldRt w ++ (w.extractLsb' 6 10) = w.extractLsb' 6 15 := append_extracts w 6 10 5
  have e0 : fieldRs w ++ (w.extractLsb' 6 15) = w.extractLsb' 6 20 := append_extracts w 6 15 5
  exact ((congrArg (fun x : BitVec 15 => fieldRs w ++ x)
    ((congrArg (fun x : BitVec 10 => fieldRt w ++ x) e2).trans e1)).trans e0).symm

/-- The word assembled from the bytes of a word is that word (20_memory.md R72, R73). -/
theorem wordOfBytes_bytes (w : Word) :
    wordOfBytes (w.extractLsb' 24 8) (w.extractLsb' 16 8) (w.extractLsb' 8 8) (w.extractLsb' 0 8) = w := by
  have e1 : w.extractLsb' 24 8 ++ w.extractLsb' 16 8 = w.extractLsb' 16 16 :=
    BitVec.extractLsb'_append_extractLsb'_eq_extractLsb' rfl
  have e2 : w.extractLsb' 16 16 ++ w.extractLsb' 8 8 = w.extractLsb' 8 24 :=
    BitVec.extractLsb'_append_extractLsb'_eq_extractLsb' rfl
  have e3 : w.extractLsb' 8 24 ++ w.extractLsb' 0 8 = w.extractLsb' 0 32 :=
    BitVec.extractLsb'_append_extractLsb'_eq_extractLsb' rfl
  exact ((congrArg (fun x : BitVec 24 => x ++ w.extractLsb' 0 8)
    ((congrArg (fun x : BitVec 16 => x ++ w.extractLsb' 8 8) e1).trans e2)).trans e3).trans BitVec.extractLsb'_eq_self

end Sys2Proof
end

