-- ==== Sys2Proof/Laws/Flags.lean ====
section
/-! SUPPORT. What each operand form and each flag computation is, said once in terms of integers and naturals: the
comparisons, the overflow tests, the sign-extended immediate and the shift amount. -/

namespace Sys2Proof.Machine

/-- The word of a signed comparison (42_computational_reg.md R205). -/
theorem boolWord_lessSigned (a b : Word) : boolWord (lessSigned a b) = if a.toInt < b.toInt then 1#32 else 0#32 := by
  simp [boolWord, lessSigned]

/-- The word of an unsigned comparison (R206). -/
theorem boolWord_lessUnsigned (a b : Word) : boolWord (lessUnsigned a b) = if a.toNat < b.toNat then 1#32 else 0#32 := by
  simp [boolWord, lessUnsigned]

/-- The sign bit is set exactly in a negative word (44_jumps_branches.md R249). -/
theorem msb_iff_neg (a : Word) : a.msb = true ↔ a.toInt < 0 := by
  rw [BitVec.msb_eq_toInt]
  simp

/-- The overflow test of addition finds exactly the sums outside the 32-bit signed range (R171, R197). -/
theorem addOverflows_iff (a b : Word) :
    addOverflows a b = true ↔ a.toInt + b.toInt < -2147483648 ∨ 2147483647 < a.toInt + b.toInt := by
  have h1 := BitVec.le_toInt a
  have h2 := BitVec.toInt_lt (x := a)
  have h3 := BitVec.le_toInt b
  have h4 := BitVec.toInt_lt (x := b)
  rw [addOverflows, BitVec.msb_eq_toInt, BitVec.msb_eq_toInt, BitVec.msb_eq_toInt, BitVec.toInt_add]
  simp [bne_iff_ne, Int.bmod_def] at *
  grind

/-- The overflow test of subtraction finds exactly the differences outside that range (R199). -/
theorem subOverflows_iff (a b : Word) :
    subOverflows a b = true ↔ a.toInt - b.toInt < -2147483648 ∨ 2147483647 < a.toInt - b.toInt := by
  have h1 := BitVec.le_toInt a
  have h2 := BitVec.toInt_lt (x := a)
  have h3 := BitVec.le_toInt b
  have h4 := BitVec.toInt_lt (x := b)
  rw [subOverflows, BitVec.msb_eq_toInt, BitVec.msb_eq_toInt, BitVec.msb_eq_toInt, BitVec.toInt_sub]
  simp [bne_iff_ne, Int.bmod_def] at *
  grind

/-- A sign-extended immediate has the immediate's signed value (30_encoding.md R115). -/
theorem toInt_signExtendImm (imm : Half) : (signExtendImm imm).toInt = imm.toInt :=
  BitVec.toInt_signExtend_of_le (by decide)

/-- The amount of a variable shift is the register modulo 32 (R118). -/
theorem toNat_shiftAmount (v : Word) : (shiftAmount v).toNat = v.toNat % 32 := by
  simp [shiftAmount]

end Sys2Proof.Machine
end

