-- ==== Sys2Proof/Laws/Memory.lean ====
section
/-! SUPPORT. Memory (20_memory.md): every operation keeps the canonical form, a load after a store gives the stored byte
at the same physical address and the old byte elsewhere, and what the address checks can answer. -/

namespace Sys2Proof.Machine

/-- Reading after writing one byte. -/
@[simp] theorem Memory.lookup_insert (m : Memory) (a : Nat) (b : Byte) (p : Nat) :
    (m.insert a b).lookup p = if p = a then some b else m.lookup p := by
  induction m with
  | nil => rfl
  | cons c rest ih =>
    obtain ⟨k, c⟩ := c
    simp only [Memory.insert]
    split
    · rfl
    · split
      · subst_vars
        simp only [Memory.lookup]
        split <;> rfl
      · simp only [Memory.lookup, ih]
        split_ifs <;> first | rfl | omega

/-- The addresses listed after writing one byte. -/
theorem Memory.mem_insert {m : Memory} {a : Nat} {b : Byte} {c : Host.Cell} (h : c ∈ m.insert a b) :
    c = (a, b) ∨ c ∈ m := by
  induction m with
  | nil => simpa [Memory.insert] using h
  | cons d rest ih =>
    obtain ⟨k, d⟩ := d
    simp only [Memory.insert] at h
    split at h
    · simpa using h
    · split at h
      · rcases List.mem_cons.1 h with h | h <;> simp [h]
      · rcases List.mem_cons.1 h with h | h
        · simp [h]
        · rcases ih h with h | h <;> simp [h]

/-- Writing one byte keeps the canonical form. -/
theorem Memory.insert_wf {m : Memory} (h : m.wf) (a : Nat) (b : Byte) : (m.insert a b).wf := by
  induction m with
  | nil => simp [Memory.insert, Memory.wf]
  | cons d rest ih =>
    obtain ⟨k, d⟩ := d
    have hk : ∀ c ∈ rest, k < c.1 := fun c hc => (List.pairwise_cons.1 h).1 c hc
    have hr : Memory.wf rest := (List.pairwise_cons.1 h).2
    simp only [Memory.insert]
    split
    · rename_i hlt
      refine List.pairwise_cons.2 ⟨fun c hc => ?_, h⟩
      rcases List.mem_cons.1 hc with rfl | hc
      · exact hlt
      · exact lt_trans hlt (hk c hc)
    · split
      · subst_vars
        exact List.pairwise_cons.2 ⟨hk, hr⟩
      · refine List.pairwise_cons.2 ⟨fun c hc => ?_, ih hr⟩
        rcases Memory.mem_insert hc with rfl | hc
        · simp only; omega
        · exact hk c hc

/-- A load of one byte after a store of one byte. -/
theorem State.load8_store8 (s : State) (a p : Word) (b : Byte) :
    (s.store8 a b).load8 p = if s.physical p = s.physical a then b else s.load8 p := by
  simp only [State.load8, State.store8_mem, State.store8_physical, State.store8_resets, Memory.lookup_insert]
  split_ifs <;> rfl

/-- A byte outside the two that a halfword store writes reads as before. -/
theorem State.load8_store16_of_ne (s : State) (a p : Word) (v : Half) (h0 : s.physical p ≠ s.physical a)
    (h1 : s.physical p ≠ s.physical (a + 1#32)) : (s.store16 a v).load8 p = s.load8 p := by
  simp [State.store16, State.load8_store8, h0, h1]

/-- A byte outside the four that a word store writes reads as before. -/
theorem State.load8_store32_of_ne (s : State) (a p v : Word) (h0 : s.physical p ≠ s.physical a)
    (h1 : s.physical p ≠ s.physical (a + 1#32)) (h2 : s.physical p ≠ s.physical (a + 2#32))
    (h3 : s.physical p ≠ s.physical (a + 3#32)) : (s.store32 a v).load8 p = s.load8 p := by
  simp [State.store32, State.load8_store8, h0, h1, h2, h3]

/-- A store of one byte keeps memory in canonical form. -/
theorem State.store8_wf {s : State} (h : s.mem.wf) (a : Word) (b : Byte) : (s.store8 a b).mem.wf :=
  Memory.insert_wf h _ _

/-- A store of a halfword keeps memory in canonical form. -/
theorem State.store16_wf {s : State} (h : s.mem.wf) (a : Word) (v : Half) : (s.store16 a v).mem.wf :=
  State.store8_wf (State.store8_wf h _ _) _ _

/-- A store of a word keeps memory in canonical form. -/
theorem State.store32_wf {s : State} (h : s.mem.wf) (a v : Word) : (s.store32 a v).mem.wf :=
  State.store8_wf (State.store8_wf (State.store8_wf (State.store8_wf h _ _) _ _) _ _) _ _

/-- The memory of the state after reset is in canonical form. -/
theorem reset_mem_wf : State.reset.mem.wf := List.Pairwise.nil

/-- A checked load answers a next state: the AdEL trap, or the completed load. -/
theorem State.checkLoad_next {s t done : State} {a : Word} {n : Nat} (h : s.checkLoad a n done = .next t) :
    (s.addressError a n = true ∧ t = s.trapEntry (.adEL a)) ∨ (s.addressError a n = false ∧ t = done) := by
  unfold State.checkLoad at h
  split at h
  · exact .inl ⟨‹_›, by simpa [State.raise] using h.symm⟩
  · exact .inr ⟨Bool.eq_false_iff.2 ‹_›, by simpa using h.symm⟩

/-- A checked store answers a next state: the AdES trap, or the completed store. -/
theorem State.checkStore_next {s t done : State} {a : Word} {n : Nat} (h : s.checkStore a n done = .next t) :
    (s.addressError a n = true ∧ t = s.trapEntry (.adES a)) ∨ (s.addressError a n = false ∧ t = done) := by
  unfold State.checkStore at h
  split at h
  · exact .inl ⟨‹_›, by simpa [State.raise] using h.symm⟩
  · exact .inr ⟨Bool.eq_false_iff.2 ‹_›, by simpa using h.symm⟩

theorem State.checkLoad_of_ok {s : State} {a : Word} {n : Nat} (done : State) (h : s.addressError a n = false) :
    s.checkLoad a n done = .next done := by simp [State.checkLoad, h]

theorem State.checkLoad_of_error {s : State} {a : Word} {n : Nat} (done : State) (h : s.addressError a n = true) :
    s.checkLoad a n done = .next (s.trapEntry (.adEL a)) := by simp [State.checkLoad, State.raise, h]

theorem State.checkStore_of_ok {s : State} {a : Word} {n : Nat} (done : State) (h : s.addressError a n = false) :
    s.checkStore a n done = .next done := by simp [State.checkStore, h]

theorem State.checkStore_of_error {s : State} {a : Word} {n : Nat} (done : State) (h : s.addressError a n = true) :
    s.checkStore a n done = .next (s.trapEntry (.adES a)) := by simp [State.checkStore, State.raise, h]

/-- When an access is an address error (R78). -/
theorem State.addressError_iff (s : State) (a : Word) (n : Nat) :
    s.addressError a n = true ↔ a.toNat % n ≠ 0 ∨ (s.status.kuc = true ∧ a.msb = false) := by
  simp [State.addressError]

end Sys2Proof.Machine
end

