-- ==== Sys2Proof/Laws/PerInstr.lean ====
section
/-! SUPPORT. The laws made for each instruction. The family `Encoding`: the word the encoder builds from an
instruction's fields satisfies the mask and match of that instruction's row of the opcode table (30_encoding.md R120,
R125), two transcriptions of the same table that are thereby compared. -/

namespace Sys2Proof.Laws

/-- Masking an R-type word masks its fields. -/
theorem encodeR_and (a a' : BitVec 6) (b b' c c' d d' e e' : BitVec 5) (f f' : BitVec 6) :
    encodeR a b c d e f &&& encodeR a' b' c' d' e' f' =
      encodeR (a &&& a') (b &&& b') (c &&& c') (d &&& d') (e &&& e') (f &&& f') := by
  have h5 := BitVec.and_append (x₁ := e) (x₂ := e') (y₁ := f) (y₂ := f')
  have h4 := (BitVec.and_append (x₁ := d) (x₂ := d') (y₁ := e ++ f) (y₂ := e' ++ f')).trans (congrArg _ h5)
  have h3 := (BitVec.and_append (x₁ := c) (x₂ := c') (y₁ := d ++ (e ++ f)) (y₂ := d' ++ (e' ++ f'))).trans (congrArg _ h4)
  have h2 := (BitVec.and_append (x₁ := b) (x₂ := b') (y₁ := c ++ (d ++ (e ++ f)))
    (y₂ := c' ++ (d' ++ (e' ++ f')))).trans (congrArg _ h3)
  exact (BitVec.and_append (x₁ := a) (x₂ := a') (y₁ := b ++ (c ++ (d ++ (e ++ f))))
    (y₂ := b' ++ (c' ++ (d' ++ (e' ++ f'))))).trans (congrArg _ h2)

/-- Masking an I-type word masks its fields. -/
theorem encodeI_and (a a' : BitVec 6) (b b' c c' : BitVec 5) (d d' : Half) :
    encodeI a b c d &&& encodeI a' b' c' d' = encodeI (a &&& a') (b &&& b') (c &&& c') (d &&& d') := by
  have h3 := BitVec.and_append (x₁ := c) (x₂ := c') (y₁ := d) (y₂ := d')
  have h2 := (BitVec.and_append (x₁ := b) (x₂ := b') (y₁ := c ++ d) (y₂ := c' ++ d')).trans (congrArg _ h3)
  exact (BitVec.and_append (x₁ := a) (x₂ := a') (y₁ := b ++ (c ++ d)) (y₂ := b' ++ (c' ++ d'))).trans (congrArg _ h2)

/-- Masking a J-type word masks its fields. -/
theorem encodeJ_and (a a' : BitVec 6) (b b' : BitVec 26) :
    encodeJ a b &&& encodeJ a' b' = encodeJ (a &&& a') (b &&& b') :=
  BitVec.and_append (x₁ := a) (x₂ := a') (y₁ := b) (y₂ := b')

/-- Masking a word with a code field masks its fields; its major opcode is zero whatever the mask. -/
theorem encodeCode_and (b b' : BitVec 20) (c c' : BitVec 6) (a' : BitVec 6) :
    encodeCode b c &&& (a' ++ (b' ++ c')) = encodeCode (b &&& b') (c &&& c') := by
  have h2 := BitVec.and_append (x₁ := b) (x₂ := b') (y₁ := c) (y₂ := c')
  have h1 := (BitVec.and_append (x₁ := 0#6) (x₂ := a') (y₁ := b ++ c) (y₂ := b' ++ c')).trans (congrArg _ h2)
  simpa [encodeCode] using h1

/-- Masking the word of a coprocessor operation masks its fields. -/
theorem encodeCo_and (a a' : BitVec 6) (b b' : BitVec 25) :
    encodeCo a b &&& encodeCo a' b' = encodeCo (a &&& a') (b &&& b') := by
  have h2 := BitVec.and_append (x₁ := 1#1) (x₂ := 1#1) (y₁ := b) (y₂ := b')
  exact (BitVec.and_append (x₁ := a) (x₂ := a') (y₁ := 1#1 ++ b) (y₂ := 1#1 ++ b')).trans (congrArg _ h2)

/-- The instruction's word satisfies its row's mask and match. -/
def Encoding.Statement (i : Instr) : Prop := encode i &&& i.row.mask = i.row.pattern

theorem Encoding.lb (rt rs : Reg) (imm : Half) : Encoding.Statement (.lb rt rs imm) :=
  (encodeI_and _ 63#6 _ 0#5 _ 0#5 _ 0#16).trans (by simp; try rfl)

theorem Encoding.lh (rt rs : Reg) (imm : Half) : Encoding.Statement (.lh rt rs imm) :=
  (encodeI_and _ 63#6 _ 0#5 _ 0#5 _ 0#16).trans (by simp; try rfl)

theorem Encoding.lw (rt rs : Reg) (imm : Half) : Encoding.Statement (.lw rt rs imm) :=
  (encodeI_and _ 63#6 _ 0#5 _ 0#5 _ 0#16).trans (by simp; try rfl)

theorem Encoding.lbu (rt rs : Reg) (imm : Half) : Encoding.Statement (.lbu rt rs imm) :=
  (encodeI_and _ 63#6 _ 0#5 _ 0#5 _ 0#16).trans (by simp; try rfl)

theorem Encoding.lhu (rt rs : Reg) (imm : Half) : Encoding.Statement (.lhu rt rs imm) :=
  (encodeI_and _ 63#6 _ 0#5 _ 0#5 _ 0#16).trans (by simp; try rfl)

theorem Encoding.ll (rt rs : Reg) (imm : Half) : Encoding.Statement (.ll rt rs imm) :=
  (encodeI_and _ 63#6 _ 0#5 _ 0#5 _ 0#16).trans (by simp; try rfl)

theorem Encoding.sb (rt rs : Reg) (imm : Half) : Encoding.Statement (.sb rt rs imm) :=
  (encodeI_and _ 63#6 _ 0#5 _ 0#5 _ 0#16).trans (by simp; try rfl)

theorem Encoding.sh (rt rs : Reg) (imm : Half) : Encoding.Statement (.sh rt rs imm) :=
  (encodeI_and _ 63#6 _ 0#5 _ 0#5 _ 0#16).trans (by simp; try rfl)

theorem Encoding.sw (rt rs : Reg) (imm : Half) : Encoding.Statement (.sw rt rs imm) :=
  (encodeI_and _ 63#6 _ 0#5 _ 0#5 _ 0#16).trans (by simp; try rfl)

theorem Encoding.sc (rt rs : Reg) (imm : Half) : Encoding.Statement (.sc rt rs imm) :=
  (encodeI_and _ 63#6 _ 0#5 _ 0#5 _ 0#16).trans (by simp; try rfl)

theorem Encoding.addi (rt rs : Reg) (imm : Half) : Encoding.Statement (.addi rt rs imm) :=
  (encodeI_and _ 63#6 _ 0#5 _ 0#5 _ 0#16).trans (by simp; try rfl)

theorem Encoding.addiu (rt rs : Reg) (imm : Half) : Encoding.Statement (.addiu rt rs imm) :=
  (encodeI_and _ 63#6 _ 0#5 _ 0#5 _ 0#16).trans (by simp; try rfl)

theorem Encoding.slti (rt rs : Reg) (imm : Half) : Encoding.Statement (.slti rt rs imm) :=
  (encodeI_and _ 63#6 _ 0#5 _ 0#5 _ 0#16).trans (by simp; try rfl)

theorem Encoding.sltiu (rt rs : Reg) (imm : Half) : Encoding.Statement (.sltiu rt rs imm) :=
  (encodeI_and _ 63#6 _ 0#5 _ 0#5 _ 0#16).trans (by simp; try rfl)

theorem Encoding.andi (rt rs : Reg) (imm : Half) : Encoding.Statement (.andi rt rs imm) :=
  (encodeI_and _ 63#6 _ 0#5 _ 0#5 _ 0#16).trans (by simp; try rfl)

theorem Encoding.ori (rt rs : Reg) (imm : Half) : Encoding.Statement (.ori rt rs imm) :=
  (encodeI_and _ 63#6 _ 0#5 _ 0#5 _ 0#16).trans (by simp; try rfl)

theorem Encoding.xori (rt rs : Reg) (imm : Half) : Encoding.Statement (.xori rt rs imm) :=
  (encodeI_and _ 63#6 _ 0#5 _ 0#5 _ 0#16).trans (by simp; try rfl)

theorem Encoding.lui (rt : Reg) (imm : Half) : Encoding.Statement (.lui rt imm) :=
  (encodeI_and _ 63#6 _ 31#5 _ 0#5 _ 0#16).trans (by simp; try rfl)

theorem Encoding.sll (rd rt : Reg) (shamt : BitVec 5) : Encoding.Statement (.sll rd rt shamt) :=
  (encodeR_and _ 63#6 _ 31#5 _ 0#5 _ 0#5 _ 0#5 _ 63#6).trans (by simp; try rfl)

theorem Encoding.srl (rd rt : Reg) (shamt : BitVec 5) : Encoding.Statement (.srl rd rt shamt) :=
  (encodeR_and _ 63#6 _ 31#5 _ 0#5 _ 0#5 _ 0#5 _ 63#6).trans (by simp; try rfl)

theorem Encoding.sra (rd rt : Reg) (shamt : BitVec 5) : Encoding.Statement (.sra rd rt shamt) :=
  (encodeR_and _ 63#6 _ 31#5 _ 0#5 _ 0#5 _ 0#5 _ 63#6).trans (by simp; try rfl)

theorem Encoding.sllv (rd rt rs : Reg) : Encoding.Statement (.sllv rd rt rs) :=
  (encodeR_and _ 63#6 _ 0#5 _ 0#5 _ 0#5 _ 31#5 _ 63#6).trans (by simp; try rfl)

theorem Encoding.srlv (rd rt rs : Reg) : Encoding.Statement (.srlv rd rt rs) :=
  (encodeR_and _ 63#6 _ 0#5 _ 0#5 _ 0#5 _ 31#5 _ 63#6).trans (by simp; try rfl)

theorem Encoding.srav (rd rt rs : Reg) : Encoding.Statement (.srav rd rt rs) :=
  (encodeR_and _ 63#6 _ 0#5 _ 0#5 _ 0#5 _ 31#5 _ 63#6).trans (by simp; try rfl)

theorem Encoding.add (rd rs rt : Reg) : Encoding.Statement (.add rd rs rt) :=
  (encodeR_and _ 63#6 _ 0#5 _ 0#5 _ 0#5 _ 31#5 _ 63#6).trans (by simp; try rfl)

theorem Encoding.addu (rd rs rt : Reg) : Encoding.Statement (.addu rd rs rt) :=
  (encodeR_and _ 63#6 _ 0#5 _ 0#5 _ 0#5 _ 31#5 _ 63#6).trans (by simp; try rfl)

theorem Encoding.sub (rd rs rt : Reg) : Encoding.Statement (.sub rd rs rt) :=
  (encodeR_and _ 63#6 _ 0#5 _ 0#5 _ 0#5 _ 31#5 _ 63#6).trans (by simp; try rfl)

theorem Encoding.subu (rd rs rt : Reg) : Encoding.Statement (.subu rd rs rt) :=
  (encodeR_and _ 63#6 _ 0#5 _ 0#5 _ 0#5 _ 31#5 _ 63#6).trans (by simp; try rfl)

theorem Encoding.and (rd rs rt : Reg) : Encoding.Statement (.and rd rs rt) :=
  (encodeR_and _ 63#6 _ 0#5 _ 0#5 _ 0#5 _ 31#5 _ 63#6).trans (by simp; try rfl)

theorem Encoding.or (rd rs rt : Reg) : Encoding.Statement (.or rd rs rt) :=
  (encodeR_and _ 63#6 _ 0#5 _ 0#5 _ 0#5 _ 31#5 _ 63#6).trans (by simp; try rfl)

theorem Encoding.xor (rd rs rt : Reg) : Encoding.Statement (.xor rd rs rt) :=
  (encodeR_and _ 63#6 _ 0#5 _ 0#5 _ 0#5 _ 31#5 _ 63#6).trans (by simp; try rfl)

theorem Encoding.nor (rd rs rt : Reg) : Encoding.Statement (.nor rd rs rt) :=
  (encodeR_and _ 63#6 _ 0#5 _ 0#5 _ 0#5 _ 31#5 _ 63#6).trans (by simp; try rfl)

theorem Encoding.slt (rd rs rt : Reg) : Encoding.Statement (.slt rd rs rt) :=
  (encodeR_and _ 63#6 _ 0#5 _ 0#5 _ 0#5 _ 31#5 _ 63#6).trans (by simp; try rfl)

theorem Encoding.sltu (rd rs rt : Reg) : Encoding.Statement (.sltu rd rs rt) :=
  (encodeR_and _ 63#6 _ 0#5 _ 0#5 _ 0#5 _ 31#5 _ 63#6).trans (by simp; try rfl)

theorem Encoding.mfhi (rd : Reg) : Encoding.Statement (.mfhi rd) :=
  (encodeR_and _ 63#6 _ 31#5 _ 31#5 _ 0#5 _ 31#5 _ 63#6).trans (by simp; try rfl)

theorem Encoding.mthi (rs : Reg) : Encoding.Statement (.mthi rs) :=
  (encodeR_and _ 63#6 _ 0#5 _ 31#5 _ 31#5 _ 31#5 _ 63#6).trans (by simp; try rfl)

theorem Encoding.mflo (rd : Reg) : Encoding.Statement (.mflo rd) :=
  (encodeR_and _ 63#6 _ 31#5 _ 31#5 _ 0#5 _ 31#5 _ 63#6).trans (by simp; try rfl)

theorem Encoding.mtlo (rs : Reg) : Encoding.Statement (.mtlo rs) :=
  (encodeR_and _ 63#6 _ 0#5 _ 31#5 _ 31#5 _ 31#5 _ 63#6).trans (by simp; try rfl)

theorem Encoding.mult (rs rt : Reg) : Encoding.Statement (.mult rs rt) :=
  (encodeR_and _ 63#6 _ 0#5 _ 0#5 _ 31#5 _ 31#5 _ 63#6).trans (by simp; try rfl)

theorem Encoding.multu (rs rt : Reg) : Encoding.Statement (.multu rs rt) :=
  (encodeR_and _ 63#6 _ 0#5 _ 0#5 _ 31#5 _ 31#5 _ 63#6).trans (by simp; try rfl)

theorem Encoding.div (rs rt : Reg) : Encoding.Statement (.div rs rt) :=
  (encodeR_and _ 63#6 _ 0#5 _ 0#5 _ 31#5 _ 31#5 _ 63#6).trans (by simp; try rfl)

theorem Encoding.divu (rs rt : Reg) : Encoding.Statement (.divu rs rt) :=
  (encodeR_and _ 63#6 _ 0#5 _ 0#5 _ 31#5 _ 31#5 _ 63#6).trans (by simp; try rfl)

theorem Encoding.j (target : BitVec 26) : Encoding.Statement (.j target) :=
  (encodeJ_and _ 63#6 _ 0#26).trans (by simp; try rfl)

theorem Encoding.jal (target : BitVec 26) : Encoding.Statement (.jal target) :=
  (encodeJ_and _ 63#6 _ 0#26).trans (by simp; try rfl)

theorem Encoding.jr (rs : Reg) : Encoding.Statement (.jr rs) :=
  (encodeR_and _ 63#6 _ 0#5 _ 31#5 _ 31#5 _ 31#5 _ 63#6).trans (by simp; try rfl)

theorem Encoding.jalr (rd rs : Reg) : Encoding.Statement (.jalr rd rs) :=
  (encodeR_and _ 63#6 _ 0#5 _ 31#5 _ 0#5 _ 31#5 _ 63#6).trans (by simp; try rfl)

theorem Encoding.beq (rs rt : Reg) (imm : Half) : Encoding.Statement (.beq rs rt imm) :=
  (encodeI_and _ 63#6 _ 0#5 _ 0#5 _ 0#16).trans (by simp; try rfl)

theorem Encoding.bne (rs rt : Reg) (imm : Half) : Encoding.Statement (.bne rs rt imm) :=
  (encodeI_and _ 63#6 _ 0#5 _ 0#5 _ 0#16).trans (by simp; try rfl)

theorem Encoding.blez (rs : Reg) (imm : Half) : Encoding.Statement (.blez rs imm) :=
  (encodeI_and _ 63#6 _ 0#5 _ 31#5 _ 0#16).trans (by simp; try rfl)

theorem Encoding.bgtz (rs : Reg) (imm : Half) : Encoding.Statement (.bgtz rs imm) :=
  (encodeI_and _ 63#6 _ 0#5 _ 31#5 _ 0#16).trans (by simp; try rfl)

theorem Encoding.bltz (rs : Reg) (imm : Half) : Encoding.Statement (.bltz rs imm) :=
  (encodeI_and _ 63#6 _ 0#5 _ 31#5 _ 0#16).trans (by simp; try rfl)

theorem Encoding.bgez (rs : Reg) (imm : Half) : Encoding.Statement (.bgez rs imm) :=
  (encodeI_and _ 63#6 _ 0#5 _ 31#5 _ 0#16).trans (by simp; try rfl)

theorem Encoding.mfc0 (rt : Reg) (rd : Reg) : Encoding.Statement (.mfc0 rt rd) :=
  (encodeR_and _ 63#6 _ 31#5 _ 0#5 _ 0#5 _ 31#5 _ 63#6).trans (by simp; try rfl)

theorem Encoding.mtc0 (rt : Reg) (rd : Reg) : Encoding.Statement (.mtc0 rt rd) :=
  (encodeR_and _ 63#6 _ 31#5 _ 0#5 _ 0#5 _ 31#5 _ 63#6).trans (by simp; try rfl)

theorem Encoding.eret : Encoding.Statement (.eret) :=
  (encodeCo_and _ 63#6 _ 33554431#25).trans (by simp; try rfl)

theorem Encoding.mfc2 (rt : Reg) (rd : Reg) : Encoding.Statement (.mfc2 rt rd) :=
  (encodeR_and _ 63#6 _ 31#5 _ 0#5 _ 0#5 _ 31#5 _ 63#6).trans (by simp; try rfl)

theorem Encoding.mtc2 (rt : Reg) (rd : Reg) : Encoding.Statement (.mtc2 rt rd) :=
  (encodeR_and _ 63#6 _ 31#5 _ 0#5 _ 0#5 _ 31#5 _ 63#6).trans (by simp; try rfl)

theorem Encoding.cfc2 (rt : Reg) (rd : Reg) : Encoding.Statement (.cfc2 rt rd) :=
  (encodeR_and _ 63#6 _ 31#5 _ 0#5 _ 0#5 _ 31#5 _ 63#6).trans (by simp; try rfl)

theorem Encoding.ctc2 (rt : Reg) (rd : Reg) : Encoding.Statement (.ctc2 rt rd) :=
  (encodeR_and _ 63#6 _ 31#5 _ 0#5 _ 0#5 _ 31#5 _ 63#6).trans (by simp; try rfl)

theorem Encoding.lwc2 (rt rs : Reg) (imm : Half) : Encoding.Statement (.lwc2 rt rs imm) :=
  (encodeI_and _ 63#6 _ 0#5 _ 0#5 _ 0#16).trans (by simp; try rfl)

theorem Encoding.swc2 (rt rs : Reg) (imm : Half) : Encoding.Statement (.swc2 rt rs imm) :=
  (encodeI_and _ 63#6 _ 0#5 _ 0#5 _ 0#16).trans (by simp; try rfl)

theorem Encoding.cop2 (copfunc : BitVec 25) : Encoding.Statement (.cop2 copfunc) :=
  (encodeCo_and _ 63#6 _ 0#25).trans (by simp; try rfl)

theorem Encoding.syscall (code : BitVec 20) : Encoding.Statement (.syscall code) :=
  (encodeCode_and _ 0#20 _ 63#6 63#6).trans (by simp; try rfl)

theorem Encoding.brk (code : BitVec 20) : Encoding.Statement (.brk code) :=
  (encodeCode_and _ 0#20 _ 63#6 63#6).trans (by simp; try rfl)

theorem Encoding.sync : Encoding.Statement (.sync) :=
  (encodeCode_and _ 1048575#20 _ 63#6 63#6).trans (by simp; try rfl)

end Sys2Proof.Laws
end

