-- ==== Sys2Proof/Laws/Registers.lean ====
section
/-! SUPPORT. What a write of a general register can do (10_state.md R21), and the ways the shared endings of the
computational instructions and of the branches answer. -/

namespace Sys2Proof.Machine

@[simp] theorem State.readReg_zero (s : State) : s.readReg 0#5 = 0#32 := rfl

/-- Writing register `r` and reading register `q`: the new value if they are the same register and it is not 0. -/
@[simp] theorem State.readReg_writeReg (s : State) (r q : Reg) (v : Word) :
    (s.writeReg r v).readReg q = if q = r ∧ r ≠ 0#5 then v else s.readReg q := by
  by_cases hr : r = 0#5
  · simp [State.readReg, State.writeReg, setReg, hr]
  · by_cases hq : q = 0#5
    · subst hq
      simp [State.readReg, Ne.symm hr]
    · have key : (r.toNat - 1 = q.toNat - 1) ↔ q = r := by
        constructor
        · intro h
          apply BitVec.eq_of_toNat_eq
          have h1 : r.toNat ≠ 0 := fun h0 => hr (BitVec.eq_of_toNat_eq (by simpa using h0))
          have h2 : q.toNat ≠ 0 := fun h0 => hq (BitVec.eq_of_toNat_eq (by simpa using h0))
          omega
        · rintro rfl; rfl
      simp [State.readReg, State.writeReg, setReg, hr, hq, Vector.getElem_set, key]

/-- Two states with the same register file read the same registers. -/
theorem State.readReg_congr {s t : State} (h : t.regs = s.regs) (q : Reg) : t.readReg q = s.readReg q := by
  simp [State.readReg, h]

/-- A computational instruction that completes writes its result and advances pc. -/
theorem State.computed_eq (s : State) (dest : Reg) (v : Word) :
    s.computed dest v = .next (s.writeReg dest v).advance := rfl

/-- A load's ending writes the destination and advances pc. -/
theorem State.loaded_eq (s : State) (rt : Reg) (v : Word) : s.loaded rt v = (s.writeReg rt v).advance := rfl

/-- A branch answers a state that differs from the old one in pc alone. -/
theorem State.branch_eq (s : State) (taken : Bool) (imm : Half) :
    s.branch taken imm = .next (s.jumpTo (if taken then branchTarget s.pc imm else s.pc + 4#32)) := by
  cases taken <;> rfl

end Sys2Proof.Machine
end

