-- ==== Sys2Proof/Laws/Step.lean ====
section
/-! SUPPORT. What one step can do (60_exceptions.md R300), said once: every later fact about a step is a case of it. -/

namespace Sys2Proof.Machine

/-- SMIPSv3 alone has exceptions and interrupts. -/
theorem hasExceptions_iff (v : Variant) : hasExceptions v = true ↔ v = .v3 := by simp [hasExceptions]

/-- SMIPSv3 gives every instruction its meaning. -/
theorem State.inVariant_of_v3 {s : State} (h : s.params.variant = .v3) (i : Instr) : s.inVariant i = true := by
  simp [State.inVariant, hasExceptions, h]

/-- What an exception before the instruction is known can answer: SMIPSv3's trap entry. -/
theorem State.raiseInVariant_next {s t : State} {e : Exc} :
    s.raiseInVariant e = .next t ↔ s.params.variant = .v3 ∧ t = s.trapEntry e := by
  unfold State.raiseInVariant State.raise
  cases s.params.variant <;> simp [hasExceptions, @eq_comm _ t]

/-- An interrupt is taken exactly where one is pending after the environment's actions and not deferred, by SMIPSv3. -/
theorem State.takesInterrupt_iff (s : State) :
    s.takesInterrupt = true ↔
      s.params.variant = .v3 ∧ s.environment.interruptEnabledPending = true ∧ s.nextInput.defer = false := by
  simp [State.takesInterrupt, hasExceptions, and_assoc]

/-- What fetching, decoding and executing can answer. -/
theorem State.runInstruction_next {s t : State} (h : s.runInstruction = .next t) :
    (s.params.variant = .v3 ∧ s.fetch = none ∧ t = s.trapEntry .adEF) ∨
    (s.params.variant = .v3 ∧ ∃ w why, s.fetch = some w ∧ decodeWord w = .reserved why ∧ t = s.trapEntry .ri) ∨
    (∃ w i, s.fetch = some w ∧ decodeWord w = .instr i ∧ s.inVariant i = true ∧ exec i s = .next t) := by
  unfold State.runInstruction at h
  split at h
  · obtain ⟨hv, ht⟩ := State.raiseInVariant_next.1 h
    exact .inl ⟨hv, ‹_›, ht⟩
  · split at h
    · obtain ⟨hv, ht⟩ := State.raiseInVariant_next.1 h
      exact .inr (.inl ⟨hv, _, _, ‹_›, ‹_›, ht⟩)
    · split at h
      · exact .inr (.inr ⟨_, _, ‹_›, ‹_›, ‹_›, h⟩)
      · cases h

/-- What one step can answer: the reset event, an interrupt, or one instruction. -/
theorem step_next {s t : State} (h : step s = .next t) :
    (s.nextInput.reset = true ∧ t = s.environment.resetEvent) ∨
    (s.nextInput.reset = false ∧ s.params.variant = .v3 ∧ s.environment.interruptEnabledPending = true ∧
      s.nextInput.defer = false ∧ t = s.environment.takeInterrupt) ∨
    (s.nextInput.reset = false ∧ s.environment.runInstruction = .next t) := by
  unfold step at h
  split at h
  · exact .inl ⟨‹_›, by simpa using h.symm⟩
  · have hr : s.nextInput.reset = false := Bool.eq_false_iff.2 ‹_›
    split at h
    · obtain ⟨hv, hi, hd⟩ := s.takesInterrupt_iff.1 ‹_›
      exact .inr (.inl ⟨hr, hv, hi, hd, by simpa using h.symm⟩)
    · exact .inr (.inr ⟨hr, h⟩)

/-- A run of one step more goes on from what the first step answers. -/
theorem core_run_succ {s t : State} (h : step s = .next t) (n : Nat) :
    Sys2Proof.core.run (n + 1) s = Sys2Proof.core.run n t := by
  have run_succ (M : Host.Core) (a b : M.State) (hab : M.step a = .next b) : M.run (n + 1) a = M.run n b := by
    simp only [Host.Core.run, hab]
  exact run_succ Sys2Proof.core s t h

/-- A fetch succeeds exactly where the address check passes, and gives the word at pc (R80). -/
theorem State.fetch_eq_some {s : State} {w : Word} :
    s.fetch = some w ↔ s.addressError s.pc 4 = false ∧ s.load32 s.pc = w := by
  unfold State.fetch
  cases h : s.addressError s.pc 4 <;> simp

/-- With no input listed only the clock acts at the boundary. -/
theorem State.environment_of_nil {s : State} (h : s.inputs = []) : s.environment = s.freeClock := by
  simp [State.environment, h]

/-- What holds at a boundary holds after the environment's actions, if the clock alone keeps it, and using up the input
and each action do. -/
theorem State.environment_induction {P : State → Prop} (s : State) (clock : P s.freeClock)
    (tail : P { s with inputs := s.inputs.tail })
    (action : ∀ t, ∀ a ∈ s.nextInput.actions, P t → P (t.envAction a)) : P s.environment := by
  unfold State.environment
  cases h : s.inputs with
  | nil => exact clock
  | cons input rest =>
    simp only [State.nextInput, h, List.headD_cons, List.tail_cons] at tail action
    show P (input.actions.foldl State.envAction { s with inputs := rest })
    generalize { s with inputs := rest } = t at tail
    generalize input.actions = actions at action
    induction actions generalizing t with
    | nil => exact tail
    | cons a actions ih =>
      exact ih _ (action t a List.mem_cons_self tail) fun u b hb => action u b (List.mem_cons_of_mem a hb)

/-- A COP2 operation keeps whatever a change of the coprocessor, register writes and byte stores keep. -/
theorem State.applyCop2_induction {P : State → Prop} (s : State) (e : Cop2Effect) (start : P (s.writeC2 e.c2))
    (reg : ∀ t r v, P t → P (t.writeReg r v)) (byte : ∀ t a b, P t → P (t.store8 a b)) : P (s.applyCop2 e) := by
  unfold State.applyCop2
  have h : P (e.regs.foldl (fun t p => t.writeReg p.1 p.2) (s.writeC2 e.c2)) := by
    generalize s.writeC2 e.c2 = t at start
    induction e.regs generalizing t with
    | nil => exact start
    | cons p rest ih => exact ih _ (reg t p.1 p.2 start)
  generalize e.regs.foldl (fun t p => t.writeReg p.1 p.2) (s.writeC2 e.c2) = t at h
  induction e.bytes generalizing t with
  | nil => exact h
  | cons p rest ih => exact ih _ (byte t p.1 p.2 h)

/-- A write of a CP0 register changes only `count`, `compare`, `cause`, `status` or `tohost`. -/
theorem State.cp0Write_frame (s : State) (n : Reg) (v : Word) :
    (s.cp0Write n v).regs = s.regs ∧ (s.cp0Write n v).hi = s.hi ∧ (s.cp0Write n v).lo = s.lo ∧
    (s.cp0Write n v).pc = s.pc ∧ (s.cp0Write n v).epc = s.epc ∧ (s.cp0Write n v).badvaddr = s.badvaddr ∧
    (s.cp0Write n v).fromhost = s.fromhost ∧ (s.cp0Write n v).linkValid = s.linkValid ∧
    (s.cp0Write n v).linkAddr = s.linkAddr ∧ (s.cp0Write n v).mem = s.mem ∧ (s.cp0Write n v).params = s.params ∧
    (s.cp0Write n v).c2 = s.c2 ∧ (s.cp0Write n v).inputs = s.inputs ∧ (s.cp0Write n v).clockWait = s.clockWait ∧
    (s.cp0Write n v).draws = s.draws ∧ (s.cp0Write n v).resets = s.resets := by
  unfold State.cp0Write
  split <;> simp

end Sys2Proof.Machine
end

