-- ==== Sys2Proof/Tests/Slice0.lean ====
section
/-! SUPPORT. Tests. The decode tests take their words from the examples of the instruction rules, the step tests from the
vectors V1 to V154 and T1 to T8 of 95_test_vectors.md (each test names its vector), so that every expected value comes
from the spec. The witnesses show, for each statement with hypotheses, a state and operands that meet them together. -/

namespace Sys2Proof.Tests

open Sys2Proof.Machine

/-! ## Helpers -/

/-- A boundary input with these actions, no reset and no deferral. -/
def acts (actions : List EnvAction) : BoundaryInput := { actions := actions, reset := false, defer := false }

/-- The state after reset with this pc, this word written to `status`, these registers and these words of memory, at a
boundary at which nothing but the program acts. -/
def given (pc status : Word) (regs : List (Reg × Word)) (words : List (Word × Word)) : State :=
  words.foldl (fun s p => s.store32 p.1 p.2)
    (regs.foldl (fun s p => s.writeReg p.1 p.2)
      { State.reset with pc := pc, status := statusOfWord status, inputs := [acts []] })

/-- What one answered step leaves in the places that `f` reads. -/
def after {α : Type} (s : State) (f : State → α) : Option α :=
  match step s with
  | .next t => some (f t)
  | .fault _ => none
  | .refused _ => none

/-! ## Decoding: the word of every constructor -/

theorem test_decode_loads :
    decodeWord 0x80220001#32 = .instr (.lb 2 1 1) ∧ decodeWord 0x84220002#32 = .instr (.lh 2 1 2) ∧
    decodeWord 0x8c22fffc#32 = .instr (.lw 2 1 0xfffc) ∧ decodeWord 0x90220001#32 = .instr (.lbu 2 1 1) ∧
    decodeWord 0x94220002#32 = .instr (.lhu 2 1 2) ∧ decodeWord 0xc0220000#32 = .instr (.ll 2 1 0) := by decide

theorem test_decode_stores :
    decodeWord 0xa0220003#32 = .instr (.sb 2 1 3) ∧ decodeWord 0xa4220002#32 = .instr (.sh 2 1 2) ∧
    decodeWord 0xac220000#32 = .instr (.sw 2 1 0) ∧ decodeWord 0xe0220000#32 = .instr (.sc 2 1 0) := by decide

theorem test_decode_immediate :
    decodeWord 0x2022ffff#32 = .instr (.addi 2 1 0xffff) ∧ decodeWord 0x2422ffff#32 = .instr (.addiu 2 1 0xffff) ∧
    decodeWord 0x2822ffff#32 = .instr (.slti 2 1 0xffff) ∧ decodeWord 0x2c22ffff#32 = .instr (.sltiu 2 1 0xffff) ∧
    decodeWord 0x3022ff00#32 = .instr (.andi 2 1 0xff00) ∧ decodeWord 0x34228000#32 = .instr (.ori 2 1 0x8000) ∧
    decodeWord 0x3822ffff#32 = .instr (.xori 2 1 0xffff) ∧ decodeWord 0x3c021234#32 = .instr (.lui 2 0x1234) := by
  decide

theorem test_decode_shifts :
    decodeWord 0x00021900#32 = .instr (.sll 3 2 4) ∧ decodeWord 0x00021902#32 = .instr (.srl 3 2 4) ∧
    decodeWord 0x00021903#32 = .instr (.sra 3 2 4) ∧ decodeWord 0x00221804#32 = .instr (.sllv 3 2 1) ∧
    decodeWord 0x00221806#32 = .instr (.srlv 3 2 1) ∧ decodeWord 0x00221807#32 = .instr (.srav 3 2 1) := by decide

theorem test_decode_register :
    decodeWord 0x00221820#32 = .instr (.add 3 1 2) ∧ decodeWord 0x00221821#32 = .instr (.addu 3 1 2) ∧
    decodeWord 0x00221822#32 = .instr (.sub 3 1 2) ∧ decodeWord 0x00221823#32 = .instr (.subu 3 1 2) ∧
    decodeWord 0x00221824#32 = .instr (.and 3 1 2) ∧ decodeWord 0x00221825#32 = .instr (.or 3 1 2) ∧
    decodeWord 0x00221826#32 = .instr (.xor 3 1 2) ∧ decodeWord 0x00221827#32 = .instr (.nor 3 1 2) ∧
    decodeWord 0x0022182a#32 = .instr (.slt 3 1 2) ∧ decodeWord 0x0022182b#32 = .instr (.sltu 3 1 2) := by decide

theorem test_decode_multiply :
    decodeWord 0x00001810#32 = .instr (.mfhi 3) ∧ decodeWord 0x00200011#32 = .instr (.mthi 1) ∧
    decodeWord 0x00001812#32 = .instr (.mflo 3) ∧ decodeWord 0x00200013#32 = .instr (.mtlo 1) ∧
    decodeWord 0x00220018#32 = .instr (.mult 1 2) ∧ decodeWord 0x00220019#32 = .instr (.multu 1 2) ∧
    decodeWord 0x0022001a#32 = .instr (.div 1 2) ∧ decodeWord 0x0022001b#32 = .instr (.divu 1 2) := by decide

theorem test_decode_jumps :
    decodeWord 0x08000410#32 = .instr (.j 0x410) ∧ decodeWord 0x0c000410#32 = .instr (.jal 0x410) ∧
    decodeWord 0x03e00008#32 = .instr (.jr 31) ∧ decodeWord 0x0080f809#32 = .instr (.jalr 31 4) := by decide

theorem test_decode_branches :
    decodeWord 0x10220003#32 = .instr (.beq 1 2 3) ∧ decodeWord 0x1422fffe#32 = .instr (.bne 1 2 0xfffe) ∧
    decodeWord 0x18200003#32 = .instr (.blez 1 3) ∧ decodeWord 0x1c200003#32 = .instr (.bgtz 1 3) ∧
    decodeWord 0x04200003#32 = .instr (.bltz 1 3) ∧ decodeWord 0x04210003#32 = .instr (.bgez 1 3) := by decide

theorem test_decode_system :
    decodeWord 0x40026800#32 = .instr (.mfc0 2 13) ∧ decodeWord 0x4082a800#32 = .instr (.mtc0 2 21) ∧
    decodeWord 0x42000018#32 = .instr .eret ∧ decodeWord 0x0000014c#32 = .instr (.syscall 5) ∧
    decodeWord 0x000001cd#32 = .instr (.brk 7) ∧ decodeWord 0x0000000f#32 = .instr .sync := by decide

theorem test_decode_cop2 :
    decodeWord 0x48021800#32 = .instr (.mfc2 2 3) ∧ decodeWord 0x48821800#32 = .instr (.mtc2 2 3) ∧
    decodeWord 0x48421800#32 = .instr (.cfc2 2 3) ∧ decodeWord 0x48c21800#32 = .instr (.ctc2 2 3) ∧
    decodeWord 0xc8220008#32 = .instr (.lwc2 2 1 8) ∧ decodeWord 0xe8220008#32 = .instr (.swc2 2 1 8) ∧
    decodeWord 0x4a012345#32 = .instr (.cop2 0x12345) := by decide

/-- One word of each family from the bit patterns of its rule, field by field: LW, SW, ORI, SRAV, DIVU, JAL, BGEZ, MTC0,
CTC2, BREAK. -/
theorem test_decode_bit_by_bit :
    decodeWord (0b100011#6 ++ (0b00001#5 ++ (0b00010#5 ++ 0b1111111111111100#16))) = .instr (.lw 2 1 0xfffc) ∧
    decodeWord (0b101011#6 ++ (0b00001#5 ++ (0b00010#5 ++ 0b0000000000000100#16))) = .instr (.sw 2 1 4) ∧
    decodeWord (0b001101#6 ++ (0b00001#5 ++ (0b00010#5 ++ 0b1000000000000000#16))) = .instr (.ori 2 1 0x8000) ∧
    decodeWord (0b000000#6 ++ (0b00001#5 ++ (0b00010#5 ++ (0b00011#5 ++ (0b00000#5 ++ 0b000111#6))))) =
      .instr (.srav 3 2 1) ∧
    decodeWord (0b000000#6 ++ (0b00001#5 ++ (0b00010#5 ++ (0b00000#5 ++ (0b00000#5 ++ 0b011011#6))))) =
      .instr (.divu 1 2) ∧
    decodeWord (0b000011#6 ++ 0b00000000000000010000010000#26) = .instr (.jal 0x410) ∧
    decodeWord (0b000001#6 ++ (0b00001#5 ++ (0b00001#5 ++ 0b0000000000000011#16))) = .instr (.bgez 1 3) ∧
    decodeWord (0b010000#6 ++ (0b00100#5 ++ (0b00010#5 ++ (0b10101#5 ++ (0b00000#5 ++ 0b000000#6))))) =
      .instr (.mtc0 2 21) ∧
    decodeWord (0b010010#6 ++ (0b00110#5 ++ (0b00010#5 ++ (0b00011#5 ++ (0b00000#5 ++ 0b000000#6))))) =
      .instr (.ctc2 2 3) ∧
    decodeWord (0b000000#6 ++ (0b00000000000000000111#20 ++ 0b001101#6)) = .instr (.brk 7) := by decide

/-- The words 95_test_vectors.md part 4 lists as reserved, each with the name of what is wrong with it. -/
theorem test_decode_reserved :
    decodeWord 0x3c221234#32 = .reserved .fixedZeroField ∧ decodeWord 0x00221860#32 = .reserved .fixedZeroField ∧
    decodeWord 0x04300003#32 = .reserved .regimmValue ∧ decodeWord 0x70000000#32 = .reserved .majorOpcode ∧
    decodeWord 0x00000001#32 = .reserved .specialFunction ∧ decodeWord 0x44000000#32 = .reserved .majorOpcode ∧
    decodeWord 0x42000019#32 = .reserved .coprocessorOperation ∧ decodeBytes [0, 0, 0] = .reserved .length := by decide

/-- Words as bytes: the first byte is the most significant (20_memory.md R72), and the host's numbering of bits. -/
theorem test_decode_bytes :
    decodeBytes [0x8c, 0x22, 0xff, 0xfc] = .instr (.lw 2 1 0xfffc) ∧
    decodeTableWord 32 0x8c22fffc = some (.lw 2 1 0xfffc) ∧ decodeTableWord 32 0x70000000 = none := by decide

/-! ## The opcode table (30_encoding.md R120, R125; 00_scope.md R2) -/

theorem test_table_counts :
    opcodeTable.length = 65 ∧ (opcodeTable.filter fun r => r.variant == some .v1).length = 5 ∧
    (opcodeTable.filter fun r => r.variant == some .v1 || r.variant == some .v2).length = 35 ∧
    (opcodeTable.filter fun r => r.variant != none).length = 58 := by decide

theorem test_table_rows_do_not_overlap :
    opcodeTable.Pairwise fun r q => (r.pattern ^^^ q.pattern) &&& (r.mask &&& q.mask) ≠ 0#32 := by decide

/-! ## Well-formedness: each check refuses an ill-formed term -/

theorem test_wf_params :
    paramsWf { Config.defaults with paBits := 0 } = false ∧ paramsWf { Config.defaults with paBits := 33 } = false ∧
    paramsWf { variant := .v2, hasCop2 := true, paBits := 1 } = true ∧ paramsWf Config.defaults = true := by decide

theorem test_wf_action :
    envActionWf (.otherStore .half 1#32 0#32) = false ∧ envActionWf (.otherStore .word 2#32 0#32) = false ∧
    envActionWf (.otherSC 2#32 0#32) = false ∧ envActionWf (.otherStore .byte 3#32 0#32) = true ∧
    boundaryWf (acts [.tick, .otherSC 1#32 0#32]) = false := by decide

theorem test_wf_memory :
    memoryWf 32 [(5, 0#8), (4, 0#8)] = false ∧ memoryWf 32 [(4, 0#8), (4, 1#8)] = false ∧
    memoryWf 2 [(4, 0#8)] = false ∧ memoryWf 2 [(2, 0#8), (3, 0#8)] = true := by decide

theorem test_wf_state :
    ({ State.reset with inputs := [acts [.otherSC 1#32 0#32]] }).wf = false ∧
    ({ State.reset with mem := [(1, 0#8), (0, 0#8)] }).wf = false ∧
    ({ State.reset with params := { Config.defaults with paBits := 0 } }).wf = false := by decide

/-! ## One step -/

/-- V1. -/
theorem test_V1_lb :
    after (given 0x00001000#32 0x00000000#32 [(1#5, 0x00002000#32)] [(0x00002000#32, 0x8001fe7f#32), (0x00001000#32,
      0x80220000#32)])
      (fun t => (t.readReg 2#5, t.pc)) =
    some (0xffffff80#32, 0x00001004#32) := by decide

/-- V3. -/
theorem test_V3_lbu :
    after (given 0x00001000#32 0x00000000#32 [(1#5, 0x00002000#32)] [(0x00002000#32, 0x8001fe7f#32), (0x00001000#32,
      0x90220000#32)])
      (fun t => (t.readReg 2#5, t.pc)) =
    some (0x00000080#32, 0x00001004#32) := by decide

/-- V4. -/
theorem test_V4_lh :
    after (given 0x00001000#32 0x00000000#32 [(1#5, 0x00002000#32)] [(0x00002000#32, 0x8001fe7f#32), (0x00001000#32,
      0x84220002#32)])
      (fun t => (t.readReg 2#5, t.pc)) =
    some (0xfffffe7f#32, 0x00001004#32) := by decide

/-- V9. -/
theorem test_V9_lh :
    after (given 0x00001000#32 0x00000000#32 [(1#5, 0x00002000#32), (2#5, 0x00000055#32)] [(0x00002000#32,
      0x8001fe7f#32), (0x00001000#32, 0x84220001#32)])
      (fun t => (t.pc, t.cause.excCode, t.epc, t.badvaddr, t.readReg 1#5)) =
    some (0x00001100#32, 4#5, 0x00001000#32, 0x00002001#32, 0x00002000#32) := by decide

/-- V5. -/
theorem test_V5_lhu :
    after (given 0x00001000#32 0x00000000#32 [(1#5, 0x00002000#32)] [(0x00002000#32, 0x8001fe7f#32), (0x00001000#32,
      0x94220002#32)])
      (fun t => (t.readReg 2#5, t.pc)) =
    some (0x0000fe7f#32, 0x00001004#32) := by decide

/-- V7. -/
theorem test_V7_lw :
    after (given 0x00001000#32 0x00000000#32 [(1#5, 0x00002004#32)] [(0x00002000#32, 0x8001fe7f#32), (0x00001000#32,
      0x8c22fffc#32)])
      (fun t => (t.readReg 2#5, t.pc)) =
    some (0x8001fe7f#32, 0x00001004#32) := by decide

/-- V10. -/
theorem test_V10_lw :
    after (given 0x80000000#32 0x00000002#32 [(1#5, 0x00002000#32), (2#5, 0x00000055#32)] [(0x00002000#32,
      0x8001fe7f#32), (0x80000000#32, 0x8c220000#32)])
      (fun t => (t.pc, t.cause.excCode, t.epc, t.badvaddr, statusWord t.status 0#6, t.readReg 2#5)) =
    some (0x00001100#32, 4#5, 0x80000000#32, 0x00002000#32, 0x00000008#32, 0x00000055#32) := by decide

/-- V13. -/
theorem test_V13_sb :
    after (given 0x00001000#32 0x00000000#32 [(1#5, 0x00002000#32), (2#5, 0x12345678#32)] [(0x00002000#32,
      0x8001fe7f#32), (0x00001000#32, 0xa0220003#32)])
      (fun t => (t.pc, t.load8 0x00002003#32, t.load8 0x00002002#32)) =
    some (0x00001004#32, 0x78#8, 0xfe#8) := by decide

/-- V14. -/
theorem test_V14_sh :
    after (given 0x00001000#32 0x00000000#32 [(1#5, 0x00002000#32), (2#5, 0x12345678#32)] [(0x00002000#32,
      0x8001fe7f#32), (0x00001000#32, 0xa4220002#32)])
      (fun t => (t.pc, t.load8 0x00002002#32, t.load8 0x00002003#32)) =
    some (0x00001004#32, 0x56#8, 0x78#8) := by decide

/-- V17. -/
theorem test_V17_sh :
    after (given 0x00001000#32 0x00000000#32 [(1#5, 0x00002000#32), (2#5, 0x12345678#32)] [(0x00002000#32,
      0x8001fe7f#32), (0x00001000#32, 0xa4220001#32)])
      (fun t => (t.pc, t.cause.excCode, t.epc, t.badvaddr, t.load8 0x00002000#32)) =
    some (0x00001100#32, 5#5, 0x00001000#32, 0x00002001#32, 0x80#8) := by decide

/-- V15. -/
theorem test_V15_sw :
    after (given 0x00001000#32 0x00000000#32 [(1#5, 0x00002000#32), (2#5, 0x12345678#32)] [(0x00002000#32,
      0x8001fe7f#32), (0x00001000#32, 0xac220000#32)])
      (fun t => (t.pc, t.load8 0x00002000#32, t.load8 0x00002001#32, t.load8 0x00002002#32, t.load8 0x00002003#32)) =
    some (0x00001004#32, 0x12#8, 0x34#8, 0x56#8, 0x78#8) := by decide

/-- V16. -/
theorem test_V16_sw :
    after (given 0x00001000#32 0x00000000#32 [(1#5, 0x00002000#32), (2#5, 0x12345678#32)] [(0x00002000#32,
      0x8001fe7f#32), (0x00001000#32, 0xac220001#32)])
      (fun t => (t.pc, t.cause.excCode, t.epc, t.badvaddr, t.load8 0x00002000#32)) =
    some (0x00001100#32, 5#5, 0x00001000#32, 0x00002001#32, 0x80#8) := by decide

/-- V18. -/
theorem test_V18_ll :
    after ({ given 0x00001000#32 0x00000000#32 [(1#5, 0x00002000#32)] [(0x00002000#32, 0x8001fe7f#32),
      (0x00001000#32, 0xc0220000#32)] with
          linkValid := false })
      (fun t => (t.readReg 2#5, t.pc, t.linkValid, t.linkAddr)) =
    some (0x8001fe7f#32, 0x00001004#32, true, 0x00002000#32) := by decide

/-- V19. -/
theorem test_V19_sc :
    after ({ given 0x00001000#32 0x00000000#32 [(1#5, 0x00002000#32), (2#5, 0x00000005#32)] [(0x00002000#32,
      0x8001fe7f#32), (0x00001000#32, 0xe0220000#32)] with
          linkValid := true })
      (fun t => (t.readReg 2#5, t.pc, t.load8 0x00002000#32, t.load8 0x00002001#32, t.load8 0x00002002#32, t.load8
        0x00002003#32)) =
    some (0x00000001#32, 0x00001004#32, 0x00#8, 0x00#8, 0x00#8, 0x05#8) := by decide

/-- V21. -/
theorem test_V21_sc :
    after ({ given 0x00001000#32 0x00000000#32 [(1#5, 0x00002000#32), (2#5, 0x00000005#32)] [(0x00002000#32,
      0x8001fe7f#32), (0x00001000#32, 0xe0220002#32)] with
          linkValid := true })
      (fun t => (t.pc, t.cause.excCode, t.epc, t.badvaddr, t.linkValid, t.readReg 2#5)) =
    some (0x00001100#32, 5#5, 0x00001000#32, 0x00002002#32, false, 0x00000005#32) := by decide

/-- V30. -/
theorem test_V30_addi :
    after (given 0x00001000#32 0x00000000#32 [(1#5, 0x00000005#32)] [(0x00001000#32, 0x2022ffff#32)])
      (fun t => (t.readReg 2#5, t.pc)) =
    some (0x00000004#32, 0x00001004#32) := by decide

/-- V31. -/
theorem test_V31_addi :
    after (given 0x00001000#32 0x00000000#32 [(1#5, 0x7fffffff#32), (2#5, 0x00000055#32)] [(0x00001000#32,
      0x20220001#32)])
      (fun t => (t.pc, t.cause.excCode, t.epc, t.readReg 2#5)) =
    some (0x00001100#32, 12#5, 0x00001000#32, 0x00000055#32) := by decide

/-- V34. -/
theorem test_V34_addiu :
    after (given 0x00001000#32 0x00000000#32 [(1#5, 0x7fffffff#32)] [(0x00001000#32, 0x24220001#32)])
      (fun t => (t.readReg 2#5, t.pc)) =
    some (0x80000000#32, 0x00001004#32) := by decide

/-- V36. -/
theorem test_V36_slti :
    after (given 0x00001000#32 0x00000000#32 [(1#5, 0xfffffffe#32)] [(0x00001000#32, 0x2822ffff#32)])
      (fun t => (t.readReg 2#5, t.pc)) =
    some (0x00000001#32, 0x00001004#32) := by decide

/-- V38. -/
theorem test_V38_sltiu :
    after (given 0x00001000#32 0x00000000#32 [(1#5, 0x00000005#32)] [(0x00001000#32, 0x2c22ffff#32)])
      (fun t => (t.readReg 2#5, t.pc)) =
    some (0x00000001#32, 0x00001004#32) := by decide

/-- V40. -/
theorem test_V40_andi :
    after (given 0x00001000#32 0x00000000#32 [(1#5, 0x12345678#32)] [(0x00001000#32, 0x3022ff00#32)])
      (fun t => (t.readReg 2#5, t.pc)) =
    some (0x00005600#32, 0x00001004#32) := by decide

/-- V41. -/
theorem test_V41_ori :
    after (given 0x00001000#32 0x00000000#32 [(1#5, 0x12340000#32)] [(0x00001000#32, 0x34228000#32)])
      (fun t => (t.readReg 2#5, t.pc)) =
    some (0x12348000#32, 0x00001004#32) := by decide

/-- V42. -/
theorem test_V42_xori :
    after (given 0x00001000#32 0x00000000#32 [(1#5, 0x12345678#32)] [(0x00001000#32, 0x3822ffff#32)])
      (fun t => (t.readReg 2#5, t.pc)) =
    some (0x1234a987#32, 0x00001004#32) := by decide

/-- V43. -/
theorem test_V43_lui :
    after (given 0x00001000#32 0x00000000#32 [] [(0x00001000#32, 0x3c021234#32)])
      (fun t => (t.readReg 2#5, t.pc)) =
    some (0x12340000#32, 0x00001004#32) := by decide

/-- V50. -/
theorem test_V50_sll :
    after (given 0x00001000#32 0x00000000#32 [(2#5, 0xf000000f#32)] [(0x00001000#32, 0x00021900#32)])
      (fun t => (t.readReg 3#5, t.pc)) =
    some (0x000000f0#32, 0x00001004#32) := by decide

/-- V51. -/
theorem test_V51_srl :
    after (given 0x00001000#32 0x00000000#32 [(2#5, 0xf000000f#32)] [(0x00001000#32, 0x00021902#32)])
      (fun t => (t.readReg 3#5, t.pc)) =
    some (0x0f000000#32, 0x00001004#32) := by decide

/-- V52. -/
theorem test_V52_sra :
    after (given 0x00001000#32 0x00000000#32 [(2#5, 0xf000000f#32)] [(0x00001000#32, 0x00021903#32)])
      (fun t => (t.readReg 3#5, t.pc)) =
    some (0xff000000#32, 0x00001004#32) := by decide

/-- V55. -/
theorem test_V55_sllv :
    after (given 0x00001000#32 0x00000000#32 [(1#5, 0x00000024#32), (2#5, 0x00000001#32)] [(0x00001000#32,
      0x00221804#32)])
      (fun t => (t.readReg 3#5, t.pc)) =
    some (0x00000010#32, 0x00001004#32) := by decide

/-- V56. -/
theorem test_V56_srlv :
    after (given 0x00001000#32 0x00000000#32 [(1#5, 0xffffffff#32), (2#5, 0x80000000#32)] [(0x00001000#32,
      0x00221806#32)])
      (fun t => (t.readReg 3#5, t.pc)) =
    some (0x00000001#32, 0x00001004#32) := by decide

/-- V57. -/
theorem test_V57_srav :
    after (given 0x00001000#32 0x00000000#32 [(1#5, 0x00000008#32), (2#5, 0x80000000#32)] [(0x00001000#32,
      0x00221807#32)])
      (fun t => (t.readReg 3#5, t.pc)) =
    some (0xff800000#32, 0x00001004#32) := by decide

/-- V58. -/
theorem test_V58_add :
    after (given 0x00001000#32 0x00000000#32 [(1#5, 0x7fffffff#32), (2#5, 0x00000001#32), (3#5, 0x00000055#32)]
      [(0x00001000#32, 0x00221820#32)])
      (fun t => (t.pc, t.cause.excCode, t.epc, t.readReg 3#5)) =
    some (0x00001100#32, 12#5, 0x00001000#32, 0x00000055#32) := by decide

/-- V59. -/
theorem test_V59_add :
    after (given 0x00001000#32 0x00000000#32 [(1#5, 0xffffffff#32), (2#5, 0x00000001#32)] [(0x00001000#32,
      0x00221820#32)])
      (fun t => (t.readReg 3#5, t.pc)) =
    some (0x00000000#32, 0x00001004#32) := by decide

/-- V60. -/
theorem test_V60_addu :
    after (given 0x00001000#32 0x00000000#32 [(1#5, 0x7fffffff#32), (2#5, 0x00000001#32)] [(0x00001000#32,
      0x00221821#32)])
      (fun t => (t.readReg 3#5, t.pc)) =
    some (0x80000000#32, 0x00001004#32) := by decide

/-- V61. -/
theorem test_V61_sub :
    after (given 0x00001000#32 0x00000000#32 [(1#5, 0x80000000#32), (2#5, 0x00000001#32), (3#5, 0x00000055#32)]
      [(0x00001000#32, 0x00221822#32)])
      (fun t => (t.pc, t.cause.excCode, t.epc, t.readReg 3#5)) =
    some (0x00001100#32, 12#5, 0x00001000#32, 0x00000055#32) := by decide

/-- V63. -/
theorem test_V63_subu :
    after (given 0x00001000#32 0x00000000#32 [(1#5, 0x00000000#32), (2#5, 0x00000001#32)] [(0x00001000#32,
      0x00221823#32)])
      (fun t => (t.readReg 3#5, t.pc)) =
    some (0xffffffff#32, 0x00001004#32) := by decide

/-- V64. -/
theorem test_V64_and :
    after (given 0x00001000#32 0x00000000#32 [(1#5, 0xff00ff00#32), (2#5, 0x0ff00ff0#32)] [(0x00001000#32,
      0x00221824#32)])
      (fun t => (t.readReg 3#5, t.pc)) =
    some (0x0f000f00#32, 0x00001004#32) := by decide

/-- V65. -/
theorem test_V65_or :
    after (given 0x00001000#32 0x00000000#32 [(1#5, 0xff00ff00#32), (2#5, 0x0ff00ff0#32)] [(0x00001000#32,
      0x00221825#32)])
      (fun t => (t.readReg 3#5, t.pc)) =
    some (0xfff0fff0#32, 0x00001004#32) := by decide

/-- V66. -/
theorem test_V66_xor :
    after (given 0x00001000#32 0x00000000#32 [(1#5, 0xff00ff00#32), (2#5, 0x0ff00ff0#32)] [(0x00001000#32,
      0x00221826#32)])
      (fun t => (t.readReg 3#5, t.pc)) =
    some (0xf0f0f0f0#32, 0x00001004#32) := by decide

/-- V67. -/
theorem test_V67_nor :
    after (given 0x00001000#32 0x00000000#32 [(1#5, 0xff00ff00#32)] [(0x00001000#32, 0x00211827#32)])
      (fun t => (t.readReg 3#5, t.pc)) =
    some (0x00ff00ff#32, 0x00001004#32) := by decide

/-- V68. -/
theorem test_V68_slt :
    after (given 0x00001000#32 0x00000000#32 [(1#5, 0xffffffff#32), (2#5, 0x00000001#32)] [(0x00001000#32,
      0x0022182a#32)])
      (fun t => (t.readReg 3#5, t.pc)) =
    some (0x00000001#32, 0x00001004#32) := by decide

/-- V69. -/
theorem test_V69_sltu :
    after (given 0x00001000#32 0x00000000#32 [(1#5, 0xffffffff#32), (2#5, 0x00000001#32), (3#5, 0x00000055#32)]
      [(0x00001000#32, 0x0022182b#32)])
      (fun t => (t.readReg 3#5, t.pc)) =
    some (0x00000000#32, 0x00001004#32) := by decide

/-- V80. -/
theorem test_V80_mult :
    after (given 0x00001000#32 0x00000000#32 [(1#5, 0xfffffffe#32), (2#5, 0x00000003#32)] [(0x00001000#32,
      0x00220018#32)])
      (fun t => (t.hi, t.lo, t.pc)) =
    some (0xffffffff#32, 0xfffffffa#32, 0x00001004#32) := by decide

/-- V81. -/
theorem test_V81_multu :
    after (given 0x00001000#32 0x00000000#32 [(1#5, 0xfffffffe#32), (2#5, 0x00000003#32)] [(0x00001000#32,
      0x00220019#32)])
      (fun t => (t.hi, t.lo, t.pc)) =
    some (0x00000002#32, 0xfffffffa#32, 0x00001004#32) := by decide

/-- V84. -/
theorem test_V84_div :
    after (given 0x00001000#32 0x00000000#32 [(1#5, 0xfffffff9#32), (2#5, 0x00000002#32)] [(0x00001000#32,
      0x0022001a#32)])
      (fun t => (t.hi, t.lo, t.pc)) =
    some (0xffffffff#32, 0xfffffffd#32, 0x00001004#32) := by decide

/-- V85. -/
theorem test_V85_div :
    after (given 0x00001000#32 0x00000000#32 [(1#5, 0x00000007#32), (2#5, 0xfffffffe#32)] [(0x00001000#32,
      0x0022001a#32)])
      (fun t => (t.hi, t.lo, t.pc)) =
    some (0x00000001#32, 0xfffffffd#32, 0x00001004#32) := by decide

/-- V86. -/
theorem test_V86_divu :
    after (given 0x00001000#32 0x00000000#32 [(1#5, 0xfffffff9#32), (2#5, 0x00000002#32)] [(0x00001000#32,
      0x0022001b#32)])
      (fun t => (t.hi, t.lo, t.pc)) =
    some (0x00000001#32, 0x7ffffffc#32, 0x00001004#32) := by decide

/-- V90. -/
theorem test_V90_mfhi :
    after ({ given 0x00001000#32 0x00000000#32 [] [(0x00001000#32, 0x00001810#32)] with
          hi := 0xdeadbeef#32, lo := 0x00000001#32 })
      (fun t => (t.readReg 3#5, t.pc)) =
    some (0xdeadbeef#32, 0x00001004#32) := by decide

/-- V91. -/
theorem test_V91_mflo :
    after ({ given 0x00001000#32 0x00000000#32 [] [(0x00001000#32, 0x00001812#32)] with
          hi := 0xdeadbeef#32, lo := 0x00000001#32 })
      (fun t => (t.readReg 3#5, t.pc)) =
    some (0x00000001#32, 0x00001004#32) := by decide

/-- V92. -/
theorem test_V92_mthi :
    after ({ given 0x00001000#32 0x00000000#32 [(1#5, 0x00000007#32)] [(0x00001000#32, 0x00200011#32)] with
          hi := 0x00000000#32, lo := 0x00000001#32 })
      (fun t => (t.hi, t.pc, t.lo)) =
    some (0x00000007#32, 0x00001004#32, 0x00000001#32) := by decide

/-- V93. -/
theorem test_V93_mtlo :
    after ({ given 0x00001000#32 0x00000000#32 [(1#5, 0x00000007#32)] [(0x00001000#32, 0x00200013#32)] with
          hi := 0x00000000#32, lo := 0x00000001#32 })
      (fun t => (t.lo, t.pc, t.hi)) =
    some (0x00000007#32, 0x00001004#32, 0x00000000#32) := by decide

/-- V101. -/
theorem test_V101_j :
    after (given 0x0ffffffc#32 0x00000000#32 [] [(0x0ffffffc#32, 0x08000001#32)])
      (fun t => t.pc) =
    some 0x10000004#32 := by decide

/-- V102. -/
theorem test_V102_jal :
    after (given 0x00001008#32 0x00000000#32 [] [(0x00001008#32, 0x0c000410#32)])
      (fun t => (t.readReg 31#5, t.pc)) =
    some (0x0000100c#32, 0x00001040#32) := by decide

/-- V104. -/
theorem test_V104_jr :
    after (given 0x00001000#32 0x00000000#32 [(1#5, 0x00002002#32)] [(0x00001000#32, 0x00200008#32)])
      (fun t => t.pc) =
    some 0x00002002#32 := by decide

/-- V105. -/
theorem test_V105_jalr :
    after (given 0x00001010#32 0x00000000#32 [(4#5, 0x00002000#32)] [(0x00001010#32, 0x0080f809#32)])
      (fun t => (t.readReg 31#5, t.pc)) =
    some (0x00001014#32, 0x00002000#32) := by decide

/-- V106. -/
theorem test_V106_jalr :
    after (given 0x00001010#32 0x00000000#32 [(4#5, 0x00002000#32)] [(0x00001010#32, 0x00802009#32)])
      (fun t => (t.readReg 4#5, t.pc)) =
    some (0x00001014#32, 0x00002000#32) := by decide

/-- V107. -/
theorem test_V107_beq :
    after (given 0x00001000#32 0x00000000#32 [(1#5, 0x00000009#32), (2#5, 0x00000009#32)] [(0x00001000#32,
      0x10220003#32)])
      (fun t => t.pc) =
    some 0x00001010#32 := by decide

/-- V119. -/
theorem test_V119_beq :
    after (given 0x00001000#32 0x00000000#32 [] [(0x00001000#32, 0x10008000#32)])
      (fun t => t.pc) =
    some 0xfffe1004#32 := by decide

/-- V109. -/
theorem test_V109_bne :
    after (given 0x00001008#32 0x00000000#32 [(1#5, 0x00000009#32), (2#5, 0x00000008#32)] [(0x00001008#32,
      0x1422fffe#32)])
      (fun t => t.pc) =
    some 0x00001004#32 := by decide

/-- V111. -/
theorem test_V111_blez :
    after (given 0x00001000#32 0x00000000#32 [(1#5, 0x00000000#32)] [(0x00001000#32, 0x18200003#32)])
      (fun t => t.pc) =
    some 0x00001010#32 := by decide

/-- V112. -/
theorem test_V112_blez :
    after (given 0x00001000#32 0x00000000#32 [(1#5, 0x00000001#32)] [(0x00001000#32, 0x18200003#32)])
      (fun t => t.pc) =
    some 0x00001004#32 := by decide

/-- V113. -/
theorem test_V113_bgtz :
    after (given 0x00001000#32 0x00000000#32 [(1#5, 0x00000000#32)] [(0x00001000#32, 0x1c200003#32)])
      (fun t => t.pc) =
    some 0x00001004#32 := by decide

/-- V114. -/
theorem test_V114_bgtz :
    after (given 0x00001000#32 0x00000000#32 [(1#5, 0x7fffffff#32)] [(0x00001000#32, 0x1c200003#32)])
      (fun t => t.pc) =
    some 0x00001010#32 := by decide

/-- V115. -/
theorem test_V115_bltz :
    after (given 0x00001000#32 0x00000000#32 [(1#5, 0x80000000#32)] [(0x00001000#32, 0x04200003#32)])
      (fun t => t.pc) =
    some 0x00001010#32 := by decide

/-- V117. -/
theorem test_V117_bgez :
    after (given 0x00001000#32 0x00000000#32 [(1#5, 0x00000000#32)] [(0x00001000#32, 0x04210003#32)])
      (fun t => t.pc) =
    some 0x00001010#32 := by decide

/-- V118. -/
theorem test_V118_bgez :
    after (given 0x00001000#32 0x00000000#32 [(1#5, 0xffffffff#32)] [(0x00001000#32, 0x04210003#32)])
      (fun t => t.pc) =
    some 0x00001004#32 := by decide

/-- V131. -/
theorem test_V131_mfc0 :
    after ({ given 0x00001000#32 0x00000000#32 [] [(0x00001000#32, 0x4002a000#32)] with
          fromhost := 0xa5#8 })
      (fun t => (t.readReg 2#5, t.pc)) =
    some (0x000000a5#32, 0x00001004#32) := by decide

/-- V136. -/
theorem test_V136_mfc0 :
    after (given 0x80000000#32 0x00000002#32 [(2#5, 0x00000055#32)] [(0x80000000#32, 0x40026000#32)])
      (fun t => (t.pc, t.cause.excCode, t.epc, statusWord t.status 0#6, t.readReg 2#5)) =
    some (0x00001100#32, 10#5, 0x80000000#32, 0x00000008#32, 0x00000055#32) := by decide

/-- V133. -/
theorem test_V133_mtc0 :
    after ({ given 0x00001000#32 0x00000000#32 [(2#5, 0x000003e8#32)] [(0x00001000#32, 0x40825800#32)] with
          compare := 0x00000000#32, cause := { ip7 := true, ip6 := false, excCode := 0#5 } })
      (fun t => (t.pc, t.cause.ip7, t.compare)) =
    some (0x00001004#32, false, 0x000003e8#32) := by decide

/-- V134. -/
theorem test_V134_mtc0 :
    after (given 0x00001000#32 0x00000000#32 [(2#5, 0xffffffff#32)] [(0x00001000#32, 0x40826000#32)])
      (fun t => (t.pc, statusWord t.status 0x3f#6)) =
    some (0x00001004#32, 0x1000ff3f#32) := by decide

/-- V139. -/
theorem test_V139_eret :
    after ({ given 0x00001000#32 0x00000018#32 [] [(0x00001000#32, 0x42000018#32)] with
          epc := 0x80000010#32 })
      (fun t => (t.pc, statusWord t.status 0#6, t.status.ieo)) =
    some (0x80000010#32, 0x00000016#32, true) := by decide

/-- V142. -/
theorem test_V142_syscall :
    after ({ given 0x80000020#32 0x00000003#32 [] [(0x80000020#32, 0x0000014c#32)] with
          linkValid := true })
      (fun t => (t.pc, t.cause.excCode, t.epc, t.linkValid, statusWord t.status 0#6)) =
    some (0x00001100#32, 8#5, 0x80000020#32, false, 0x0000000c#32) := by decide

/-- V143. -/
theorem test_V143_brk :
    after (given 0x00001000#32 0x00000000#32 [] [(0x00001000#32, 0x000001cd#32)])
      (fun t => (t.pc, t.cause.excCode, t.epc)) =
    some (0x00001100#32, 9#5, 0x00001000#32) := by decide

/-- V144. -/
theorem test_V144_sync :
    after (given 0x00001000#32 0x00000000#32 [] [(0x00001000#32, 0x0000000f#32)])
      (fun t => t.pc) =
    some 0x00001004#32 := by decide

/-- V145. -/
theorem test_V145_cop2 :
    after (given 0x00001000#32 0x00000000#32 [] [(0x00001000#32, 0x4a012345#32)])
      (fun t => (t.pc, t.cause.excCode, t.epc)) =
    some (0x00001100#32, 10#5, 0x00001000#32) := by decide

/-- V146. -/
theorem test_V146_lwc2 :
    after (given 0x00001000#32 0x00000000#32 [(1#5, 0x00002000#32)] [(0x00001000#32, 0xc8220008#32)])
      (fun t => (t.pc, t.cause.excCode, t.epc)) =
    some (0x00001100#32, 10#5, 0x00001000#32) := by decide

/-- V140. -/
theorem test_V140_fetch :
    after (given 0x00002002#32 0x00000000#32 [] [])
      (fun t => (t.pc, t.cause.excCode, t.epc)) =
    some (0x00001100#32, 6#5, 0x00002002#32) := by decide

/-- V141. -/
theorem test_V141_fetch :
    after (given 0x00001000#32 0x00000002#32 [] [])
      (fun t => (t.pc, t.cause.excCode, t.epc, statusWord t.status 0#6)) =
    some (0x00001100#32, 6#5, 0x00001000#32, 0x00000008#32) := by decide

/-- V44. -/
theorem test_V44_reserved :
    after (given 0x00001000#32 0x00000000#32 [(2#5, 0x00000055#32)] [(0x00001000#32, 0x3c221234#32)])
      (fun t => (t.pc, t.cause.excCode, t.epc)) =
    some (0x00001100#32, 10#5, 0x00001000#32) := by decide

/-- V70. -/
theorem test_V70_reserved :
    after (given 0x00001000#32 0x00000000#32 [(1#5, 0x00000001#32), (2#5, 0x00000001#32), (3#5, 0x00000055#32)]
      [(0x00001000#32, 0x00221860#32)])
      (fun t => (t.pc, t.cause.excCode, t.epc)) =
    some (0x00001100#32, 10#5, 0x00001000#32) := by decide

/-- V150. -/
theorem test_V150_interrupt :
    after ({ given 0x80000040#32 0x0000c001#32 [(2#5, 0x00000055#32)] [(0x80000040#32, 0x24020001#32)] with
          cause := { ip7 := true, ip6 := true, excCode := 0#5 } })
      (fun t => (t.pc, t.cause.excCode, t.epc, statusWord t.status 0#6, t.readReg 2#5)) =
    some (0x00001100#32, 0#5, 0x80000040#32, 0x0000c004#32, 0x00000055#32) := by decide

/-- V151. -/
theorem test_V151_interrupt :
    after ({ given 0x80000040#32 0x0000c003#32 [(2#5, 0x00000055#32)] [(0x80000040#32, 0x24020001#32)] with
          cause := { ip7 := true, ip6 := false, excCode := 0#5 } })
      (fun t => (t.pc, t.cause.excCode, t.epc, statusWord t.status 0#6)) =
    some (0x00001100#32, 2#5, 0x80000040#32, 0x0000c00c#32) := by decide

/-! ## Coprocessor 2, the environment and reset -/

/-- R280: without the coprocessor the other five of its instructions take RI too. -/
theorem test_absent_cop2 :
    ([0x48021800#32, 0x48821800#32, 0x48421800#32, 0x48c21800#32, 0xe8220008#32].map fun w =>
      after (given 0x00001000#32 0x00000000#32 [] [(0x00001000#32, w)]) fun t => (t.pc, t.cause.excCode)) =
    List.replicate 5 (some (0x00001100#32, 10#5)) := by decide

/-- R286 with the coprocessor attached, in kernel mode: a misaligned SWC2 takes AdES, an aligned one completes. -/
theorem test_attached_swc2 :
    let s := { given 0x00001000#32 0x00000000#32 [(1#5, 0x00002000#32)] [(0x00001000#32, 0xe8220009#32)] with
      params := { Config.defaults with hasCop2 := true } }
    let u := { given 0x00001000#32 0x00000000#32 [(1#5, 0x00002000#32)] [(0x00001000#32, 0xe8220008#32)] with
      params := { Config.defaults with hasCop2 := true } }
    after s (fun t => (t.pc, t.cause.excCode, t.badvaddr)) = some (0x00001100#32, 5#5, 0x00002009#32) ∧
    after u (fun t => t.pc) = some 0x00001004#32 := by decide

/-- T1 to T3: a tick. -/
theorem test_ticks :
    (let t := State.tick { State.reset with count := 0x63#32, compare := 0x64#32 }; (t.count, t.cause.ip7)) =
      (0x64#32, true) ∧
    (let t := State.tick { State.reset with count := 0xffffffff#32, compare := 0#32 }; (t.count, t.cause.ip7)) =
      (0#32, true) ∧
    (let t := State.tick { State.reset with count := 0x64#32, compare := 0x64#32 }; (t.count, t.cause.ip7)) =
      (0x65#32, false) := by decide

/-- Ticks at once are the ticks one by one, where they reach `compare` and where they stop one short of it. -/
theorem test_ticks_at_once :
    let s := { State.reset with count := 0xfffffffe#32, compare := 0x00000001#32 }
    s.ticks 3 = State.tick (State.tick (State.tick s)) ∧ (s.ticks 3).cause.ip7 = true ∧
    s.ticks 2 = State.tick (State.tick s) ∧ (s.ticks 2).cause.ip7 = false := by decide

/-- R381: at a boundary of which no input is listed the clock waits one boundary less, and then ticks. -/
theorem test_unlisted_boundary :
    ({ State.reset with clockWait := 2 }).environment = { State.reset with clockWait := 1 } ∧
    ({ State.reset with clockWait := 0 }).freeTicks = Config.anyNat 0 + 1 :=
  ⟨by decide, rfl⟩

/-- R136: SMIPSv1 runs ADDIU and refuses XORI and an MTC0 to `status`; SMIPSv2 runs XORI, refuses a misaligned LW and a
reserved word, and takes no interrupt. -/
theorem test_variants :
    let run (v : Variant) (w : Word) : Option Word :=
      after { given 0x00001000#32 0x00008001#32 [] [(0x00001000#32, w)] with
          params := { Config.defaults with variant := v }, cause := { ip7 := true, ip6 := false, excCode := 0#5 } }
        fun t => t.pc
    run .v1 0x24020001#32 = some 0x00001004#32 ∧ run .v1 0x38020001#32 = none ∧ run .v1 0x40806000#32 = none ∧
    run .v1 0x4080a800#32 = some 0x00001004#32 ∧ run .v2 0x38020001#32 = some 0x00001004#32 ∧
    run .v2 0x8c020001#32 = none ∧ run .v2 0x70000000#32 = none ∧ run .v3 0x38020001#32 = some 0x00001100#32 := by
  decide

/-- T6: the host sets IP6 at a boundary, and the interrupt is taken there. -/
theorem test_host_interrupt :
    after { given 0x80000040#32 0x00004001#32 [] [(0x80000040#32, 0x24020001#32)] with inputs := [acts [.hostSetIP6 true]] }
      (fun t => (t.pc, t.cause.excCode, t.epc)) = some (0x00001100#32, 0#5, 0x80000040#32) := by decide

/-- T7: the host writes `fromhost`, and MFC0 reads it. -/
theorem test_host_fromhost :
    after { given 0x00001000#32 0x00000000#32 [] [(0x00001000#32, 0x4002a000#32)] with
        inputs := [acts [.hostWriteFromhost 0x5a#8]] }
      (fun t => t.readReg 2#5) = some 0x0000005a#32 := by decide

/-- T8: reset. -/
theorem test_reset_event :
    after { given 0x80000000#32 0x00000003#32 [] [] with tohost := 7#8, inputs := [⟨[], true, false⟩] }
      (fun t => (t.pc, t.status.kuc, t.status.iec, t.tohost)) = some (0x00001000#32, false, false, 0#8) := by
  decide

/-- Another processor's SC to the linked word clears the link, so that this processor's SC fails (20_memory.md R92). -/
theorem test_other_sc :
    after { given 0x00001000#32 0x00000000#32 [(1#5, 0x00002000#32), (2#5, 5#32)] [(0x00001000#32, 0xe0220000#32)] with
        linkValid := true, linkAddr := 0x00002000#32, inputs := [acts [.otherSC 0x00002000#32 9#32]] }
      (fun t => (t.readReg 2#5, t.load32 0x00002000#32)) = some (0#32, 9#32) := by decide

/-- The word `withFetchWord` places is the one the next step runs: `ADDIU r2, r1, -1` from reset. -/
theorem test_fetch_word :
    after (State.reset.withFetchWord 32 0x2422ffff) (fun t => (t.readReg 2#5, t.pc)) =
      some (0xffffffff#32, 0x00001004#32) := by decide

/-! ## Witnesses: the hypotheses of each statement, met together; where a statement has several clauses, each of them,
at the boundary values of its range -/

/-- A word fetched at pc 0x1000 in kernel mode. -/
def running (w : Word) : State := given 0x00001000#32 0x00000000#32 [] [(0x00001000#32, w)]

/-- User mode at the lowest user address, with this word there and this value in r1. -/
def userRunning (w r1 : Word) : State := given 0x80000000#32 0x00000002#32 [(1#5, r1)] [(0x80000000#32, w)]

theorem test_witness_EncodeInvertsDecode : decodeWord 0xfc000000#32 ≠ .instr .sync ∧
    decodeWord 0x0000000f#32 = .instr .sync := by decide

theorem test_witness_NoWordMatchesTwoRows :
    (Instr.sync).row ∈ opcodeTable ∧ 0x0000000f#32 &&& (Instr.sync).row.mask = (Instr.sync).row.pattern := by decide

theorem test_witness_StepRunsTheDecodedInstruction :
    (BoundaryRunsInstruction (running 0x24020001#32) ∧
      AccessOk (running 0x24020001#32).environment (running 0x24020001#32).environment.pc 4 ∧
      decodeBytes (([0#32, 1#32, 2#32, 3#32]).map fun k =>
        (running 0x24020001#32).environment.load8 ((running 0x24020001#32).environment.pc + k)) =
          .instr (.addiu 2 0 1)) ∧
    (running 0x24020001#32).params.variant = .v3 ∧ State.reset.inputs = [] ∧
    (let s := { running 0x24020001#32 with params := { Config.defaults with variant := .v1 } }
     s.params.variant = .v1 ∧ s.params.hasCop2 = false ∧ s.inVariant (.addiu 2 0 1) = true) := by
  unfold BoundaryRunsInstruction AccessOk; decide

theorem test_witness_StepNeverStops : State.reset.params.variant = .v3 := rfl

/-- A misaligned pc, and the highest kernel-only word fetched from user mode; in SMIPSv2 the first, and a reserved
word. -/
theorem test_witness_BadFetchTakesAdEF :
    let s := given 0x00001001#32 0x00000000#32 [] []
    let u := given 0x7ffffffc#32 0x00000002#32 [] []
    let s2 := { s with params := { Config.defaults with variant := .v2 } }
    let u2 := { running 0x3c200000#32 with params := { Config.defaults with variant := .v2 } }
    (s.params.variant = .v3 ∧ BoundaryRunsInstruction s ∧ ¬ AccessOk s.environment s.environment.pc 4) ∧
    (u.params.variant = .v3 ∧ BoundaryRunsInstruction u ∧ ¬ AccessOk u.environment u.environment.pc 4) ∧
    (s2.params.variant ≠ .v3 ∧ BoundaryRunsInstruction s2 ∧ ¬ AccessOk s2.environment s2.environment.pc 4) ∧
    (u2.params.variant ≠ .v3 ∧ BoundaryRunsInstruction u2 ∧
      decodeWord (u2.environment.load32 u2.environment.pc) = .reserved .fixedZeroField) := by
  unfold BoundaryRunsInstruction AccessOk; decide

theorem test_witness_ReservedWordTakesRI :
    let s := running 0x3c200000#32
    s.params.variant = .v3 ∧ BoundaryRunsInstruction s ∧ AccessOk s.environment s.environment.pc 4 ∧
    ∀ r ∈ opcodeTable, s.environment.load32 s.environment.pc &&& r.mask ≠ r.pattern := by
  unfold BoundaryRunsInstruction AccessOk; decide

/-- Both interrupts ready, and the timer's alone. -/
theorem test_witness_InterruptNeedsFlagMaskAndEnable :
    let s := { given 0x00001000#32 0x0000c001#32 [] [] with cause := ⟨true, true, 0#5⟩ }
    let u := { given 0x00001000#32 0x0000c001#32 [] [] with cause := ⟨true, false, 0#5⟩ }
    (s.interruptEnabledPending = true ∧ s.hintReady = true ∧ s.tintReady = true) ∧
    (u.interruptEnabledPending = true ∧ u.hintReady = false ∧ u.tintReady = true) := by decide

/-- A host interrupt in user mode, and a timer interrupt in kernel mode. -/
theorem test_witness_InterruptEntry :
    ({ given 0x80000000#32 0x00004003#32 [] [] with cause := ⟨false, true, 0#5⟩ }).interruptEnabledPending = true ∧
    ({ given 0x00001000#32 0x00008001#32 [] [] with cause := ⟨true, false, 0#5⟩ }).interruptEnabledPending = true := by
  decide

/-- A pending interrupt that is taken, and one that is deferred, so that the instruction runs. -/
theorem test_witness_PendingInterruptIsTaken :
    let s := { given 0x00001000#32 0x00008001#32 [] [] with cause := ⟨true, false, 0#5⟩ }
    let u := { s with inputs := [⟨[], false, true⟩] }
    (s.nextInput.reset = false ∧ s.params.variant = .v3 ∧ s.environment.interruptEnabledPending = true ∧
      s.nextInput.defer = false) ∧
    (u.environment.interruptEnabledPending = true ∧ BoundaryRunsInstruction u) ∧
    BoundaryRunsInstruction (running 0#32) := by
  unfold BoundaryRunsInstruction; decide

theorem test_witness_ResetEventRestarts :
    ({ running 0#32 with inputs := [⟨[.tick], true, false⟩] }).nextInput.reset = true := by decide

theorem test_witness_StepKeepsWellFormed :
    (running 0xac000000#32).wf = true ∧ ∃ t, step (running 0xac000000#32) = .next t := ⟨by decide, _, rfl⟩

theorem test_witness_ModeChangesOnlyAsListed :
    (∃ t, step (running 0x42000018#32) = .next t) ∧ Cop0Usable (running 0x42000018#32) ∧
    Cop0Usable (given 0x80000000#32 0x10000002#32 [] []) :=
  ⟨⟨_, rfl⟩, .inl rfl, .inr rfl⟩

theorem test_witness_UserModeCannotChangeStatus :
    (userRunning 0x40806000#32 0#32).status.kuc = true ∧ (userRunning 0x40806000#32 0#32).status.cu0 = false ∧
    ∃ t, step (userRunning 0x40806000#32 0#32) = .next t := ⟨rfl, rfl, _, rfl⟩

/-- A store from user mode to the lowest user word, and to the highest kernel-only word, with a tick at the boundary. -/
theorem test_witness_UserModeCannotWriteKernelMemory :
    ([0x80000000#32, 0x7ffffffc#32].all fun r1 =>
      let s := { userRunning 0xac210000#32 r1 with inputs := [acts [.tick]] }
      s.params.paBits == 32 && !s.params.hasCop2 && s.status.kuc && !s.nextInput.reset && !(0x7fffffff#32 : Word).msb &&
        (after s fun t => t.params.paBits) == some 32) = true ∧
    ∀ a ∈ (acts [.tick]).actions, StoresNothing a := by
  refine ⟨by decide, ?_⟩
  simp [acts, StoresNothing]

/-- Two states that differ in a byte of the kernel-only segment, which a load from user mode tries to read. -/
theorem test_witness_UserModeCannotReadKernelMemory :
    let s := userRunning 0x8c220000#32 0x00002000#32
    let m := s.mem.insert 0x00002000 0x5a#8
    s.params.paBits = 32 ∧ s.params.hasCop2 = false ∧ s.status.kuc = true ∧ s.nextInput.reset = false ∧ m ≠ s.mem ∧
    (∀ a : Word, a.msb = true → { s with mem := m }.load8 a = s.load8 a) ∧ (∃ t, step s = .next t) ∧
    ∃ u, step { s with mem := m } = .next u := by
  refine ⟨rfl, rfl, rfl, rfl, by decide, fun a ha => ?_, ⟨_, rfl⟩, ⟨_, rfl⟩⟩
  have h : a.toNat ≠ 0x00002000 := by
    intro h
    rw [BitVec.msb_eq_decide, h] at ha
    exact absurd ha (by decide)
  have hp : (userRunning 0x8c220000#32 0x00002000#32).physical a = a.toNat :=
    Nat.mod_eq_of_lt (show a.toNat < 2 ^ 32 from a.isLt)
  show (Memory.lookup (Memory.insert _ _ _) (State.physical (userRunning 0x8c220000#32 0x00002000#32) a)).getD _ = _
  rw [Memory.lookup_insert, hp, if_neg h, ← hp]
  rfl

theorem test_witness_OnlyTheDestinationRegisterChanges :
    (∀ f, Instr.addiu 2 0 1 ≠ .cop2 f) ∧ (∃ t, exec (.addiu 2 0 1) State.reset = .next t) ∧
    destination (.addiu 2 0 1) ≠ some 3#5 := ⟨by simp, ⟨_, rfl⟩, by decide⟩

theorem test_witness_OnlyStoresChangeMemory :
    (∀ f, Instr.sb 0 0 3 ≠ .cop2 f) ∧ ∃ t, exec (.sb 0 0 3) (State.reset.store8 3#32 1#8) = .next t ∧
    t.load8 3#32 ≠ (State.reset.store8 3#32 1#8).load8 3#32 := ⟨by simp, _, rfl, by decide⟩

theorem test_witness_OnlyMultiplyFamilyWritesHiLo : ∃ t, exec (.mtlo 0) { State.reset with lo := 1#32 } = .next t ∧
    t.lo ≠ 1#32 := ⟨_, rfl, by decide⟩

theorem test_witness_ExceptionRegistersChangeOnlyByTrap :
    (∃ t, exec (.syscall 0) State.reset = .next t ∧ t.epc ≠ State.reset.epc) ∧
    (let s := { running 0x38020001#32 with params := { Config.defaults with variant := .v2 } }
     s.params.variant ≠ .v3 ∧ s.nextInput.reset = false ∧ ∃ t, step s = .next t) :=
  ⟨⟨_, rfl, by decide⟩, by decide, by decide, _, rfl⟩

theorem test_witness_HostRegistersBelongToTheHost :
    ∃ t, exec (.mtc0 1 21) (State.reset.writeReg 1 0x101#32) = .next t ∧ t.tohost = 1#8 := ⟨_, rfl, by decide⟩

/-- A step that keeps IP7, and the one that clears it. -/
theorem test_witness_TimerFlagClearedOnlyByCompareWrite :
    ({ running 0#32 with cause := ⟨true, false, 0#5⟩ }).cause.ip7 = true ∧
    after { running 0#32 with cause := ⟨true, false, 0#5⟩ } (fun t => t.cause.ip7) = some true ∧
    after { running 0x40805800#32 with cause := ⟨true, false, 0#5⟩ } (fun t => t.cause.ip7) = some false := by decide

theorem test_witness_RegisterWriteReadsBack :
    (31#5 : Reg) ≠ 0#5 ∧ (30#5 : Reg) ≠ 31#5 ∧ (State.reset.writeReg 31#5 7#32).readReg 31#5 = 7#32 := by decide

/-- With 20 address bits: two addresses that agree in them, and two that differ in the highest of them. -/
theorem test_witness_ShadowedAddressesNameOneByte :
    let s := { State.reset with params := { Config.defaults with paBits := 20 } }
    (0xfff00004#32 : Word).toNat % 2 ^ s.params.paBits = (0x00000004#32 : Word).toNat % 2 ^ s.params.paBits ∧
    (0x00080004#32 : Word).toNat % 2 ^ s.params.paBits ≠ (0x00000004#32 : Word).toNat % 2 ^ s.params.paBits := by decide

theorem test_witness_MixedWidthAccessIsBigEndian :
    (2 ≤ State.reset.params.paBits ∧ (0xfffffffc#32 : Word).toNat % 4 = 0) ∧
    2 ≤ ({ State.reset with params := { Config.defaults with paBits := 2 } }).params.paBits := by decide

theorem test_witness_StoredWordIsFetched :
    2 ≤ State.reset.params.paBits ∧ AccessOk State.reset (State.reset.address 0 0xfffc) 4 ∧
    ∃ t, exec (.sw 0 0 0xfffc) State.reset = .next t := by
  unfold AccessOk; exact ⟨by decide, by decide, _, rfl⟩

/-- The linked word, and the word after it. -/
theorem test_witness_OtherProcessorsBreakTheLink :
    let s := { State.reset with linkValid := true, linkAddr := 0x2000#32 }
    2 ≤ s.params.paBits ∧ (0x2000#32 : Word).toNat % 4 = 0 ∧ (0x2004#32 : Word).toNat % 4 = 0 ∧
    s.physical 0x2000#32 / 4 = s.physical s.linkAddr / 4 ∧ s.physical 0x2004#32 / 4 ≠ s.physical s.linkAddr / 4 := by
  decide

/-- An ended run at whose boundary the clock ticks and the host raises its interrupt. -/
theorem test_witness_EndedRunStaysEnded :
    let s := { running 0x1000ffff#32 with inputs := [acts [.tick, .hostSetIP6 true]] }
    RunEnded s ∧ AccessOk s s.pc 4 ∧ s.nextInput.reset = false ∧ (∀ a ∈ s.nextInput.actions, StoresNothing a) ∧
    ∃ t, step s = .next t := by
  refine ⟨⟨by decide, .inl rfl⟩, ⟨by decide, .inl rfl⟩, rfl, ?_, _, rfl⟩
  show ∀ a ∈ [EnvAction.tick, .hostSetIP6 true], StoresNothing a
  simp [StoresNothing]

/-- The greatest sums, differences and least ones that fit, and the first on each side that do not. -/
theorem test_witness_AddAndSubtractTrapOnOverflow :
    let s := (State.reset.writeReg 1 0x7fffffff#32).writeReg 2 0x80000000#32
    let u := (s.writeReg 3 1#32).writeReg 4 0xffffffff#32
    ((u.readReg 1).toInt + (u.readReg 0).toInt = 2147483647 ∧ (u.readReg 1).toInt + (u.readReg 3).toInt = 2147483648 ∧
      (u.readReg 2).toInt + (u.readReg 0).toInt = -2147483648 ∧
      (u.readReg 2).toInt + (u.readReg 4).toInt = -2147483649) ∧
    ((u.readReg 1).toInt - (u.readReg 0).toInt = 2147483647 ∧ (u.readReg 1).toInt - (u.readReg 4).toInt = 2147483648 ∧
      (u.readReg 2).toInt - (u.readReg 0).toInt = -2147483648 ∧
      (u.readReg 2).toInt - (u.readReg 3).toInt = -2147483649) ∧
    ((u.readReg 1).toInt + (0x0000#16 : Half).toInt = 2147483647 ∧
      (u.readReg 1).toInt + (0x0001#16 : Half).toInt = 2147483648 ∧
      (u.readReg 2).toInt + (0x0000#16 : Half).toInt = -2147483648 ∧
      (u.readReg 2).toInt + (0xffff#16 : Half).toInt = -2147483649) := by decide

/-- The operands on each side of the one unstated pair: -2^31 by 1, and -2^31 + 1 by -1. -/
theorem test_witness_DivideLeavesQuotientAndRemainder :
    let s := (State.reset.writeReg 1 0x80000000#32).writeReg 2 1#32
    let u := (State.reset.writeReg 1 0x80000001#32).writeReg 2 0xffffffff#32
    (s.readReg 2 ≠ 0#32 ∧ ¬ ((s.readReg 1).toInt = -2147483648 ∧ (s.readReg 2).toInt = -1)) ∧
    (u.readReg 2 ≠ 0#32 ∧ ¬ ((u.readReg 1).toInt = -2147483648 ∧ (u.readReg 2).toInt = -1)) := by decide

theorem test_witness_UnstatedDividesComplete :
    let s := (State.reset.writeReg 1 0x80000000#32).writeReg 2 0xffffffff#32
    State.reset.readReg 2 = 0#32 ∧ (s.readReg 1).toInt = -2147483648 ∧ (s.readReg 2).toInt = -1 := by decide

theorem test_witness_BranchResults :
    (0x00001000#32 : Word) = State.reset.pc + 4#32 + BitVec.ofInt 32 (4 * (0xffff#16 : Half).toInt) := by decide

/-- The lowest user address and the highest kernel-only ones, from user mode; and misaligned ones from kernel mode. -/
theorem test_witness_LoadsReadOrTrap :
    let u := userRunning 0#32 0x80000000#32
    let s := State.reset
    (0x80000000#32 = u.address 1 0 ∧ AccessOk u 0x80000000#32 1 ∧ AccessOk u 0x80000000#32 2 ∧
      AccessOk u 0x80000000#32 4) ∧
    (0x7fffffff#32 = u.address 1 0xffff ∧ ¬ AccessOk u 0x7fffffff#32 1) ∧
    (0x7ffffffe#32 = u.address 1 0xfffe ∧ ¬ AccessOk u 0x7ffffffe#32 2) ∧
    (0x7ffffffc#32 = u.address 1 0xfffc ∧ ¬ AccessOk u 0x7ffffffc#32 4) ∧
    (0x00000001#32 = s.address 0 1 ∧ AccessOk s 0x00000001#32 1 ∧ ¬ AccessOk s 0x00000001#32 2) ∧
    (0x00000002#32 = s.address 0 2 ∧ AccessOk s 0x00000002#32 2 ∧ ¬ AccessOk s 0x00000002#32 4) := by
  unfold AccessOk; decide

theorem test_witness_StoresWriteOrTrap :
    let u := userRunning 0#32 0x80000000#32
    (0x80000001#32 = u.address 1 1 ∧ AccessOk u 0x80000001#32 1 ∧ ¬ AccessOk u 0x80000001#32 2) ∧
    (0x80000002#32 = u.address 1 2 ∧ AccessOk u 0x80000002#32 2 ∧ ¬ AccessOk u 0x80000002#32 4) ∧
    (0x80000004#32 = u.address 1 4 ∧ AccessOk u 0x80000004#32 4) ∧
    (0x7fffffff#32 = u.address 1 0xffff ∧ ¬ AccessOk u 0x7fffffff#32 1) := by
  unfold AccessOk; decide

theorem test_witness_LoadLinkedSetsTheLink :
    let u := userRunning 0#32 0x80000000#32
    (0x80000000#32 = u.address 1 0 ∧ AccessOk u 0x80000000#32 4) ∧
    (0x7ffffffc#32 = u.address 1 0xfffc ∧ ¬ AccessOk u 0x7ffffffc#32 4) := by
  unfold AccessOk; decide

/-- A permitted address with the link valid and without it, and a forbidden one. -/
theorem test_witness_StoreConditionalTestsTheLink :
    let u := userRunning 0#32 0x80000000#32
    let v := { u with linkValid := true }
    (0x80000000#32 = u.address 1 0 ∧ AccessOk u 0x80000000#32 4 ∧ u.linkValid = false) ∧
    (AccessOk v 0x80000000#32 4 ∧ v.linkValid = true ∧ 2 ≤ v.params.paBits) ∧
    (0x80000002#32 = u.address 1 2 ∧ ¬ AccessOk u 0x80000002#32 4) := by
  unfold AccessOk; decide

theorem test_witness_LinkSurvivesUntilTrap :
    AccessOk State.reset (State.reset.address 0 0) 4 ∧ ∃ t, exec (.ll 2 0 0) State.reset = .next t ∧
    AccessOk t (t.address 0 4) 4 ∧ (t.address 0 4).toNat % 4 = 0 ∧ 2 ≤ State.reset.params.paBits := by
  unfold AccessOk; exact ⟨by decide, _, rfl, ⟨by decide, .inl rfl⟩, by decide, by decide⟩

/-- The system coprocessor is usable in kernel mode, and in user mode with CU0. -/
theorem test_witness_MoveFromCp0Reads :
    Cop0Usable State.reset ∧ Cop0Usable (given 0x80000000#32 0x10000002#32 [] []) ∧
    (given 0x80000000#32 0x10000002#32 [] []).status.im50.getLsbD 5 = false := ⟨.inl rfl, .inr rfl, rfl⟩

theorem test_witness_MoveToCp0Writes :
    7#32 = (State.reset.writeReg 1 7#32).readReg 1 ∧ Cop0Usable (State.reset.writeReg 1 7#32) := ⟨by decide, .inl rfl⟩

/-- Every bit of `status` written but the unused mask bits, from kernel mode. -/
theorem test_witness_StatusReadsBackWhatWasWritten :
    let s := State.reset.writeReg 1 0xffffc0ff#32
    Cop0Usable s ∧ (s.readReg 1).extractLsb' 8 6 = 0#6 ∧ ∃ t, exec (.mtc0 1 12) s = .next t ∧ Cop0Usable t ∧
    (∃ u, exec (.mfc0 2 12) t = .next u) ∧ (2#5 : Reg) ≠ 0#5 :=
  ⟨.inl rfl, by decide, _, rfl, .inr rfl, ⟨_, rfl⟩, by decide⟩

theorem test_witness_Cop0RefusedInUserMode :
    (userRunning 0#32 0#32).status.kuc = true ∧ (userRunning 0#32 0#32).status.cu0 = false := by decide

theorem test_witness_EretReturns : Cop0Usable (running 0x42000018#32) := .inl rfl

theorem test_witness_AbsentCop2TakesRI : State.reset.params.hasCop2 = false := rfl

/-- An aligned address, a misaligned one, and user mode. -/
theorem test_witness_AttachedCop2Completes :
    let s := { State.reset with params := { Config.defaults with hasCop2 := true } }
    (Cop2Usable s ∧ 2 ≤ s.params.paBits) ∧ (0x00000004#32 = s.address 0 4 ∧ AccessOk s 0x00000004#32 4) ∧
    (0x00000003#32 = s.address 0 3 ∧ ¬ AccessOk s 0x00000003#32 4) ∧ (userRunning 0#32 0#32).status.kuc = true := by
  unfold AccessOk
  exact ⟨⟨⟨rfl, .inl rfl⟩, by decide⟩, by decide, by decide, rfl⟩

end Sys2Proof.Tests
end

section
/-! PROOFS (30_encoding.md). A word that decodes is the word of the instruction it decodes to (R120), and so matches that
instruction's row of the opcode table (R125): the form in which a word that matches no row is known to be reserved. -/

namespace Sys2Proof

/-! ## A word is built from given fields exactly when they are its own -/

theorem encodeR_eq_iff {op : BitVec 6} {rs rt rd sh : BitVec 5} {funct : BitVec 6} {w : Word} :
    encodeR op rs rt rd sh funct = w ↔
      fieldOpcode w = op ∧ fieldRs w = rs ∧ fieldRt w = rt ∧ fieldRd w = rd ∧ fieldShamt w = sh ∧ fieldFunct w = funct := by
  constructor
  · rintro rfl
    simp
  · rintro ⟨rfl, rfl, rfl, rfl, rfl, rfl⟩
    exact encodeR_fields w

theorem encodeI_eq_iff {op : BitVec 6} {rs rt : BitVec 5} {imm : Half} {w : Word} :
    encodeI op rs rt imm = w ↔ fieldOpcode w = op ∧ fieldRs w = rs ∧ fieldRt w = rt ∧ fieldImm w = imm := by
  constructor
  · rintro rfl
    simp
  · rintro ⟨rfl, rfl, rfl, rfl⟩
    exact encodeI_fields w

theorem encodeJ_eq_iff {op : BitVec 6} {target : BitVec 26} {w : Word} :
    encodeJ op target = w ↔ fieldOpcode w = op ∧ fieldTarget w = target := by
  constructor
  · rintro rfl
    simp
  · rintro ⟨rfl, rfl⟩
    exact encodeJ_fields w

theorem encodeCode_eq_iff {code : BitVec 20} {funct : BitVec 6} {w : Word} :
    encodeCode code funct = w ↔ fieldOpcode w = 0x00#6 ∧ fieldCode w = code ∧ fieldFunct w = funct := by
  constructor
  · rintro rfl
    simp
  · rintro ⟨hop, rfl, rfl⟩
    exact encodeCode_fields w hop

theorem encodeCo_eq_iff {op : BitVec 6} {copfunc : BitVec 25} {w : Word} :
    encodeCo op copfunc = w ↔ fieldOpcode w = op ∧ fieldCo w = 1#1 ∧ fieldCopfunc w = copfunc := by
  constructor
  · rintro rfl
    simp
  · rintro ⟨rfl, hco, rfl⟩
    exact encodeCo_fields w hco

/-! ## Decoding drops no bit -/

/-- What decoding finds in a word, if it is an instruction, has that word as its encoding. -/
def Decoded.Faithful (d : Decoded) (w : Word) : Prop := ∀ i, d = .instr i → encode i = w

@[simp] theorem Decoded.faithful_instr (i : Instr) (w : Word) : (Decoded.instr i).Faithful w ↔ encode i = w := by
  simp [Decoded.Faithful]

@[simp] theorem Decoded.faithful_reserved (why : Reject) (w : Word) : (Decoded.reserved why).Faithful w := by
  simp [Decoded.Faithful]

/-- Where a row has fixed-zero bits, the word need only be rebuilt if they are zero (R132). -/
@[simp] theorem faithful_whenZero (zeroBits : Bool) (i : Instr) (w : Word) :
    (whenZero zeroBits i).Faithful w ↔ (zeroBits = true → encode i = w) := by
  cases zeroBits <;> simp [whenZero]

@[simp] theorem coprocessorMoveZero_iff (w : Word) :
    coprocessorMoveZero w = true ↔ fieldShamt w = 0#5 ∧ fieldFunct w = 0#6 := by
  simp [coprocessorMoveZero]

/-! In each map the fields that selected a row are that row's fixed fields, and its fixed-zero fields are those `whenZero`
tested, so encoding the row's operands gives the word back. -/

theorem decodeSpecial_faithful {w : Word} (hop : fieldOpcode w = 0x00#6) : (decodeSpecial w).Faithful w := by
  unfold decodeSpecial
  split <;> simp +contextual [encode, encodeR_eq_iff, encodeCode_eq_iff, *]

theorem decodeRegimm_faithful {w : Word} (hop : fieldOpcode w = 0x01#6) : (decodeRegimm w).Faithful w := by
  unfold decodeRegimm
  split <;> simp [encode, encodeI_eq_iff, *]

theorem decodeCop0_faithful {w : Word} (hop : fieldOpcode w = 0x10#6) : (decodeCop0 w).Faithful w := by
  unfold decodeCop0
  split
  case h_3 hrs =>
    have hco : fieldCo w = 1#1 := by rw [fieldCo_eq, hrs]; rfl
    split <;> simp [encode, encodeCo_eq_iff, *]
  all_goals simp +contextual [encode, encodeR_eq_iff, *]

theorem decodeCop2_faithful {w : Word} (hop : fieldOpcode w = 0x12#6) : (decodeCop2 w).Faithful w := by
  unfold decodeCop2
  split
  · simp [encode, encodeCo_eq_iff, *]
  · split <;> simp +contextual [encode, encodeR_eq_iff, *]

theorem decodeWord_faithful (w : Word) : (decodeWord w).Faithful w := by
  unfold decodeWord
  split
  case h_1 hop => exact decodeSpecial_faithful hop
  case h_2 hop => exact decodeRegimm_faithful hop
  case h_17 hop => exact decodeCop0_faithful hop
  case h_18 hop => exact decodeCop2_faithful hop
  all_goals simp +contextual [encode, encodeI_eq_iff, encodeJ_eq_iff, *]

/-! ## The row of an instruction -/

/-- Every instruction's row is one of the 65: a row holds no operand, so it is found by comparing closed rows. -/
theorem Instr.row_mem_opcodeTable (i : Instr) : i.row ∈ opcodeTable := by
  cases i <;> exact List.mem_of_elem_eq_true rfl

open Laws in
/-- The 65 laws of the family `Encoding`, as one. -/
theorem encode_and_mask (i : Instr) : encode i &&& i.row.mask = i.row.pattern := by
  cases i with
  | lb => exact Encoding.lb ..
  | lh => exact Encoding.lh ..
  | lw => exact Encoding.lw ..
  | lbu => exact Encoding.lbu ..
  | lhu => exact Encoding.lhu ..
  | ll => exact Encoding.ll ..
  | sb => exact Encoding.sb ..
  | sh => exact Encoding.sh ..
  | sw => exact Encoding.sw ..
  | sc => exact Encoding.sc ..
  | addi => exact Encoding.addi ..
  | addiu => exact Encoding.addiu ..
  | slti => exact Encoding.slti ..
  | sltiu => exact Encoding.sltiu ..
  | andi => exact Encoding.andi ..
  | ori => exact Encoding.ori ..
  | xori => exact Encoding.xori ..
  | lui => exact Encoding.lui ..
  | sll => exact Encoding.sll ..
  | srl => exact Encoding.srl ..
  | sra => exact Encoding.sra ..
  | sllv => exact Encoding.sllv ..
  | srlv => exact Encoding.srlv ..
  | srav => exact Encoding.srav ..
  | add => exact Encoding.add ..
  | addu => exact Encoding.addu ..
  | sub => exact Encoding.sub ..
  | subu => exact Encoding.subu ..
  | and => exact Encoding.and ..
  | or => exact Encoding.or ..
  | xor => exact Encoding.xor ..
  | nor => exact Encoding.nor ..
  | slt => exact Encoding.slt ..
  | sltu => exact Encoding.sltu ..
  | mfhi => exact Encoding.mfhi ..
  | mthi => exact Encoding.mthi ..
  | mflo => exact Encoding.mflo ..
  | mtlo => exact Encoding.mtlo ..
  | mult => exact Encoding.mult ..
  | multu => exact Encoding.multu ..
  | div => exact Encoding.div ..
  | divu => exact Encoding.divu ..
  | j => exact Encoding.j ..
  | jal => exact Encoding.jal ..
  | jr => exact Encoding.jr ..
  | jalr => exact Encoding.jalr ..
  | beq => exact Encoding.beq ..
  | bne => exact Encoding.bne ..
  | blez => exact Encoding.blez ..
  | bgtz => exact Encoding.bgtz ..
  | bltz => exact Encoding.bltz ..
  | bgez => exact Encoding.bgez ..
  | mfc0 => exact Encoding.mfc0 ..
  | mtc0 => exact Encoding.mtc0 ..
  | eret => exact Encoding.eret
  | mfc2 => exact Encoding.mfc2 ..
  | mtc2 => exact Encoding.mtc2 ..
  | cfc2 => exact Encoding.cfc2 ..
  | ctc2 => exact Encoding.ctc2 ..
  | lwc2 => exact Encoding.lwc2 ..
  | swc2 => exact Encoding.swc2 ..
  | cop2 => exact Encoding.cop2 ..
  | syscall => exact Encoding.syscall ..
  | brk => exact Encoding.brk ..
  | sync => exact Encoding.sync

/-- A word that decodes satisfies the mask and match of its instruction's row. -/
theorem and_mask_of_decodeWord {w : Word} {i : Instr} (h : decodeWord w = .instr i) :
    w &&& i.row.mask = i.row.pattern := by
  have henc : encode i = w := decodeWord_faithful w i h
  rw [← henc, encode_and_mask]

/-- A word that matches no row of the opcode table is reserved (R130). -/
theorem reserved_of_no_row {w : Word} (h : ∀ r ∈ opcodeTable, w &&& r.mask ≠ r.pattern) :
    ∃ why, decodeWord w = .reserved why := by
  cases hd : decodeWord w with
  | reserved why => exact ⟨why, rfl⟩
  | instr i => exact absurd (and_mask_of_decodeWord hd) (h i.row i.row_mem_opcodeTable)

end Sys2Proof
end

section
/-! PROOFS (60_exceptions.md R300). What the coming step is where the boundary runs an instruction, and that trap entry
is what the statements call trapped (R320). -/

namespace Sys2Proof.Machine

@[simp] theorem State.storeWidth_params (s : State) (width : Width) (addr v : Word) :
    (s.storeWidth width addr v).params = s.params := by
  cases width <;> simp [State.storeWidth]

@[simp] theorem State.otherSC_params (s : State) (addr v : Word) : (s.otherSC addr v).params = s.params := by
  simp [State.otherSC]

/-- No action of the environment touches the implementation parameters (00_scope.md R8). -/
@[simp] theorem State.envAction_params (s : State) (a : EnvAction) : (s.envAction a).params = s.params := by
  cases a with
  | otherStore width addr v =>
    simp only [State.envAction]
    split <;> simp
  | otherSC addr v =>
    simp only [State.envAction]
    split <;> simp
  | tick => rfl
  | hostWriteFromhost v => rfl
  | hostReadTohost => rfl
  | hostSetIP6 b => rfl
  | clearLink => rfl

/-- The implementation is the same after the environment's actions as before. -/
@[simp] theorem State.environment_params (s : State) : s.environment.params = s.params := by
  refine State.environment_induction (P := fun t => t.params = s.params) s ?_ ?_ ?_
  · simp
  · rfl
  · intro t a _ ih
    rw [State.envAction_params, ih]

/-- Where the boundary runs an instruction, the step is what that instruction does after the environment's actions. -/
theorem step_of_boundaryRunsInstruction {s : State} (h : BoundaryRunsInstruction s) :
    step s = s.environment.runInstruction := by
  obtain ⟨hreset, hint⟩ := h
  have hquiet : ¬ s.takesInterrupt = true := by
    rw [State.takesInterrupt_iff]
    rintro ⟨hv, hpending, hdefer⟩
    simp [hv, hpending, hdefer] at hint
  simp [step, hreset, hquiet]

/-- A permitted access is exactly one that is no address error (20_memory.md R78). -/
theorem accessOk_iff (s : State) (a : Word) (n : Nat) : AccessOk s a n ↔ s.addressError a n = false := by
  rw [← Bool.not_eq_true, State.addressError_iff, AccessOk]
  cases s.status.kuc <;> cases a.msb <;> simp

theorem State.fetch_of_accessOk {s : State} (h : AccessOk s s.pc 4) : s.fetch = some (s.load32 s.pc) :=
  State.fetch_eq_some.2 ⟨(accessOk_iff s s.pc 4).1 h, rfl⟩

/-- SMIPSv3 takes RI for a reserved word it can fetch. -/
theorem State.runInstruction_of_reserved {s : State} {why : Reject} (hv : s.params.variant = .v3)
    (hok : AccessOk s s.pc 4) (hd : decodeWord (s.load32 s.pc) = .reserved why) :
    s.runInstruction = .next (s.trapEntry .ri) := by
  simp only [State.runInstruction, State.fetch_of_accessOk hok, hd]
  exact State.raiseInVariant_next.2 ⟨hv, rfl⟩

/-- Trap entry does to a state all that R320 says, and no more. -/
theorem trapped_trapEntry (s : State) (e : Exc) : Trapped s (s.trapEntry e) e.code := by
  simp [Trapped, SameRegs, SameHiLo, SameMem, SameModel, Status.push, Config.exceptionVector]

/-- Settles O9: a word that matches no row is reserved, so the instruction the boundary runs is trap entry with RI. -/
theorem reservedWordTakesRI : Obligations.ReservedWordTakesRI := by
  intro s hv hruns hok hrow
  obtain ⟨why, hreserved⟩ := reserved_of_no_row hrow
  refine ⟨s.environment.trapEntry .ri, ?_, trapped_trapEntry s.environment .ri⟩
  rw [step_of_boundaryRunsInstruction hruns]
  exact State.runInstruction_of_reserved (by simpa using hv) hok hreserved

end Sys2Proof.Machine
end

section
/-! PROOFS (40_loads_stores.md). Storing a list of bytes from an address on, of which the halfword and word stores are
cases (20_memory.md R73); how a checked load or store ends (R161); and the eight plain loads and stores as such. -/

namespace Sys2Proof.Machine

/-! ## Consecutive addresses (20_memory.md R71) -/

/-- Fewer consecutive addresses than the memory system decodes do not shadow each other. -/
theorem State.physical_add_injective (s : State) (a : Word) {i j : Nat} (hi : i < 2 ^ s.params.paBits)
    (hj : j < 2 ^ s.params.paBits) (hi32 : i < 2 ^ 32) (hj32 : j < 2 ^ 32)
    (h : s.physical (a + BitVec.ofNat 32 i) = s.physical (a + BitVec.ofNat 32 j)) : i = j := by
  have decoded (k : Nat) :
      (a + BitVec.ofNat 32 k).toNat ≡ a.toNat + k [MOD 2 ^ min s.params.paBits 32] := by
    rw [BitVec.toNat_add, BitVec.toNat_ofNat, Nat.add_mod_mod]
    exact (Nat.mod_modEq _ _).of_dvd (pow_dvd_pow 2 (Nat.min_le_right _ _))
  have hphysical : (a + BitVec.ofNat 32 i).toNat ≡ (a + BitVec.ofNat 32 j).toNat [MOD 2 ^ min s.params.paBits 32] :=
    Nat.ModEq.of_dvd (pow_dvd_pow 2 (Nat.min_le_left _ _)) h
  have hij : i ≡ j [MOD 2 ^ min s.params.paBits 32] :=
    Nat.ModEq.add_left_cancel' a.toNat ((decoded i).symm.trans (hphysical.trans (decoded j)))
  rcases Nat.le_total s.params.paBits 32 with hp | hp
  · rw [Nat.min_eq_left hp] at hij
    exact hij.eq_of_lt_of_lt hi hj
  · rw [Nat.min_eq_right hp] at hij
    exact hij.eq_of_lt_of_lt hi32 hj32

/-- Counting from the next address is counting one further from this one. -/
theorem add_one_add_ofNat (a : Word) (k : Nat) : a + 1#32 + BitVec.ofNat 32 k = a + BitVec.ofNat 32 (k + 1) := by
  rw [BitVec.add_assoc, ← BitVec.ofNat_add, Nat.add_comm]

/-! ## Storing bytes at consecutive addresses (20_memory.md R73) -/

/-- The bytes stored from `a` on, the first at the lowest address. -/
def State.storeBytes (s : State) (a : Word) : List Byte → State
  | [] => s
  | b :: bytes => (s.store8 a b).storeBytes (a + 1#32) bytes

theorem State.store16_eq_storeBytes (s : State) (a : Word) (v : Half) :
    s.store16 a v = s.storeBytes a [v.extractLsb' 8 8, v.extractLsb' 0 8] := rfl

theorem State.store32_eq_storeBytes (s : State) (a v : Word) :
    s.store32 a v =
      s.storeBytes a [v.extractLsb' 24 8, v.extractLsb' 16 8, v.extractLsb' 8 8, v.extractLsb' 0 8] := by
  simp [State.store32, State.storeBytes, BitVec.add_assoc]

/-- Storing bytes changes memory alone. -/
theorem State.storeBytes_eq_with_mem (s : State) (a : Word) (bytes : List Byte) :
    s.storeBytes a bytes = { s with mem := (s.storeBytes a bytes).mem } := by
  induction bytes generalizing s a with
  | nil => rfl
  | cons b bytes ih => exact ih (s.store8 a b) (a + 1#32)

/-- A byte at none of the addresses stored to reads as before. -/
theorem State.load8_storeBytes_of_ne (s : State) (a p : Word) (bytes : List Byte)
    (hne : ∀ k, k < bytes.length → s.physical p ≠ s.physical (a + BitVec.ofNat 32 k)) :
    (s.storeBytes a bytes).load8 p = s.load8 p := by
  induction bytes generalizing s a with
  | nil => rfl
  | cons b bytes ih =>
    have hfirst : s.physical p ≠ s.physical a := by simpa using hne 0 (by simp)
    have hrest (k : Nat) (hk : k < bytes.length) :
        (s.store8 a b).physical p ≠ (s.store8 a b).physical (a + 1#32 + BitVec.ofNat 32 k) := by
      rw [add_one_add_ofNat]
      exact hne (k + 1) (by simpa using hk)
    rw [State.storeBytes, ih _ _ hrest, State.load8_store8, if_neg hfirst]

/-- Bytes stored to addresses that do not shadow each other are read back. -/
theorem State.load8_storeBytes (s : State) (a : Word) (bytes : List Byte) (hlen : bytes.length ≤ 2 ^ s.params.paBits)
    (hlen32 : bytes.length ≤ 2 ^ 32) (k : Nat) (hk : k < bytes.length) :
    (s.storeBytes a bytes).load8 (a + BitVec.ofNat 32 k) = bytes[k] := by
  induction bytes generalizing s a k with
  | nil => simp at hk
  | cons b bytes ih =>
    rw [List.length_cons] at hlen hlen32 hk
    cases k with
    | zero =>
      have hlater (j : Nat) (hj : j < bytes.length) :
          (s.store8 a b).physical (a + BitVec.ofNat 32 0) ≠
            (s.store8 a b).physical (a + 1#32 + BitVec.ofNat 32 j) := by
        rw [add_one_add_ofNat]
        intro h
        have := s.physical_add_injective a (by omega) (by omega) (by omega) (by omega) h
        omega
      rw [State.storeBytes, State.load8_storeBytes_of_ne _ _ _ _ hlater]
      simp [State.load8_store8]
    | succ k =>
      rw [State.storeBytes, ← add_one_add_ofNat a k]
      exact ih (s.store8 a b) (a + 1#32) (Nat.le_of_succ_le hlen) (Nat.le_of_succ_le hlen32) k (by omega)

/-! ## How a load or store ends -/

/-- A permitted load completes, writing the loaded value to its destination alone. -/
theorem writesReg_of_checkLoad {i : Instr} {s : State} {a : Word} {n : Nat} {rt : Reg} {v : Word}
    (hexec : exec i s = s.checkLoad a n (s.loaded rt v)) (hok : AccessOk s a n) : WritesReg i s rt v := by
  refine ⟨s.loaded rt v, ?_, ?_, ?_, ?_⟩
  · rw [hexec, State.checkLoad_of_ok _ ((accessOk_iff s a n).1 hok)]
  · simp [State.loaded_eq]
  · intro q
    simp [State.loaded_eq]
  · simp [State.loaded_eq, SameRest, SameSpecial, SameHiLo, SameCp0, SameLink, SameModel, SameMem]

theorem addressError_of_not_accessOk {s : State} {a : Word} {n : Nat} (h : ¬ AccessOk s a n) :
    s.addressError a n = true := by
  rwa [accessOk_iff, Bool.not_eq_false] at h

/-- A load that is not permitted takes AdEL (20_memory.md R78). -/
theorem trapsAt_of_checkLoad {i : Instr} {s done : State} {a : Word} {n : Nat}
    (hexec : exec i s = s.checkLoad a n done) (hbad : ¬ AccessOk s a n) : TrapsAt i s 4#5 a :=
  ⟨s.trapEntry (.adEL a), hexec.trans (State.checkLoad_of_error done (addressError_of_not_accessOk hbad)),
    trapped_trapEntry s (.adEL a), rfl⟩

/-- A permitted store completes, storing its bytes and changing pc, and nothing else. -/
theorem storesBytes_of_checkStore {i : Instr} {s : State} {a : Word} {n : Nat} {bytes : List Byte}
    (hexec : exec i s = s.checkStore a n (s.storeBytes a bytes).advance) (hlen32 : bytes.length ≤ 2 ^ 32)
    (hok : AccessOk s a n) : StoresBytes i s a bytes := by
  have hframe := s.storeBytes_eq_with_mem a bytes
  refine ⟨(s.storeBytes a bytes).advance, ?_, ?_, ?_, ?_, ?_, ?_, ?_, ?_⟩
  · rw [hexec, State.checkStore_of_ok _ ((accessOk_iff s a n).1 hok)]
  · rw [hframe]; rfl
  · intro q
    rw [hframe]; rfl
  · rw [hframe]
    simp [SameSpecial, SameHiLo, SameCp0, SameLink, SameModel]
  · rw [hframe]; rfl
  · rw [hframe]; rfl
  · exact fun p hne => s.load8_storeBytes_of_ne a p bytes hne
  · exact fun hlen k hk => s.load8_storeBytes a bytes hlen hlen32 k hk

/-- A store that is not permitted takes AdES (R78). -/
theorem trapsAt_of_checkStore {i : Instr} {s done : State} {a : Word} {n : Nat}
    (hexec : exec i s = s.checkStore a n done) (hbad : ¬ AccessOk s a n) : TrapsAt i s 5#5 a :=
  ⟨s.trapEntry (.adES a), hexec.trans (State.checkStore_of_error done (addressError_of_not_accessOk hbad)),
    trapped_trapEntry s (.adES a), rfl⟩

/-! ## The plain loads and stores as checked accesses (40_loads_stores.md R151 to R155, R157 to R159) -/

section
variable (s : State) (rt rs : Reg) (imm : Half)

theorem exec_lb : exec (.lb rt rs imm) s = s.checkLoad (s.address rs imm) 1
    (s.loaded rt ((s.load8 (s.address rs imm)).signExtend 32)) := rfl

theorem exec_lbu : exec (.lbu rt rs imm) s = s.checkLoad (s.address rs imm) 1
    (s.loaded rt ((s.load8 (s.address rs imm)).zeroExtend 32)) := rfl

theorem exec_lh : exec (.lh rt rs imm) s = s.checkLoad (s.address rs imm) 2
    (s.loaded rt ((s.load16 (s.address rs imm)).signExtend 32)) := rfl

theorem exec_lhu : exec (.lhu rt rs imm) s = s.checkLoad (s.address rs imm) 2
    (s.loaded rt ((s.load16 (s.address rs imm)).zeroExtend 32)) := rfl

theorem exec_lw : exec (.lw rt rs imm) s = s.checkLoad (s.address rs imm) 4
    (s.loaded rt (s.load32 (s.address rs imm))) := rfl

theorem exec_sb : exec (.sb rt rs imm) s = s.checkStore (s.address rs imm) 1
    (s.storeBytes (s.address rs imm) [(s.readReg rt).extractLsb' 0 8]).advance := rfl

/-- The bytes of the low half of a register are bytes of the register. -/
theorem exec_sh : exec (.sh rt rs imm) s = s.checkStore (s.address rs imm) 2
    (s.storeBytes (s.address rs imm) [(s.readReg rt).extractLsb' 8 8, (s.readReg rt).extractLsb' 0 8]).advance := by
  have hhigh : ((s.readReg rt).extractLsb' 0 16).extractLsb' 8 8 = (s.readReg rt).extractLsb' 8 8 :=
    BitVec.extractLsb'_extractLsb'_of_le (by decide)
  have hlow : ((s.readReg rt).extractLsb' 0 16).extractLsb' 0 8 = (s.readReg rt).extractLsb' 0 8 :=
    BitVec.extractLsb'_extractLsb'_of_le (by decide)
  rw [← hhigh, ← hlow, ← State.store16_eq_storeBytes]
  rfl

theorem exec_sw : exec (.sw rt rs imm) s = s.checkStore (s.address rs imm) 4
    (s.storeBytes (s.address rs imm)
      [(s.readReg rt).extractLsb' 24 8, (s.readReg rt).extractLsb' 16 8, (s.readReg rt).extractLsb' 8 8,
        (s.readReg rt).extractLsb' 0 8]).advance := by
  rw [← State.store32_eq_storeBytes]
  rfl

end

/-- Settles O47: each load is a checked load of its bytes, which completes where the access is permitted and takes AdEL
where it is not. -/
theorem loadsReadOrTrap : Obligations.LoadsReadOrTrap := by
  rintro s rt rs imm a rfl
  have lb := exec_lb s rt rs imm
  have lbu := exec_lbu s rt rs imm
  have lh := exec_lh s rt rs imm
  have lhu := exec_lhu s rt rs imm
  have lw := exec_lw s rt rs imm
  refine ⟨rfl, ?_, ?_, ?_, ?_, ?_, ?_, rfl, rfl, rfl, rfl, rfl⟩
  · exact fun hok => ⟨writesReg_of_checkLoad lb hok, writesReg_of_checkLoad lbu hok⟩
  · exact fun hok => ⟨writesReg_of_checkLoad lh hok, writesReg_of_checkLoad lhu hok⟩
  · exact fun hok => writesReg_of_checkLoad lw hok
  · exact fun hbad => ⟨trapsAt_of_checkLoad lb hbad, trapsAt_of_checkLoad lbu hbad⟩
  · exact fun hbad => ⟨trapsAt_of_checkLoad lh hbad, trapsAt_of_checkLoad lhu hbad⟩
  · exact fun hbad => trapsAt_of_checkLoad lw hbad

/-- Settles O48: each store is a checked store of the bytes of `rt`, which completes where the access is permitted and
takes AdES where it is not. -/
theorem storesWriteOrTrap : Obligations.StoresWriteOrTrap := by
  rintro s rt rs imm a rfl
  have sb := exec_sb s rt rs imm
  have sh := exec_sh s rt rs imm
  have sw := exec_sw s rt rs imm
  refine ⟨rfl, ?_, ?_, ?_, ?_, ?_, ?_, rfl, rfl, rfl⟩
  · exact storesBytes_of_checkStore sb (by simp)
  · exact storesBytes_of_checkStore sh (by simp)
  · exact storesBytes_of_checkStore sw (by simp)
  · exact trapsAt_of_checkStore sb
  · exact trapsAt_of_checkStore sh
  · exact trapsAt_of_checkStore sw

end Sys2Proof.Machine
end

section
/-! PROOFS (41_computational_imm.md). How a computational instruction that raises nothing ends (R170, R190), and each of
the register-immediate instructions as such. -/

namespace Sys2Proof.Machine

/-! ## How a computational instruction ends -/

/-- Writing a register and advancing pc leaves all but the general registers and pc as it was. -/
theorem sameRest_writeReg_advance (s : State) (r : Reg) (v : Word) : SameRest s (s.writeReg r v).advance := by
  simp [SameRest, SameSpecial, SameHiLo, SameCp0, SameLink, SameModel, SameMem]

/-- An instruction that ends as computational ones do completes, writing its result to its destination alone. -/
theorem writesReg_of_computed {i : Instr} {s : State} {r : Reg} {v : Word} (hexec : exec i s = s.computed r v) :
    WritesReg i s r v := by
  refine ⟨(s.writeReg r v).advance, ?_, ?_, ?_, sameRest_writeReg_advance s r v⟩
  · rw [hexec, State.computed_eq]
  · simp
  · intro q
    simp

/-! ## The register-immediate instructions as computed results (R172 to R178) -/

section
variable (s : State) (rt rs : Reg) (imm : Half)

theorem exec_addiu : exec (.addiu rt rs imm) s = s.computed rt (s.readReg rs + imm.signExtend 32) := rfl

theorem exec_slti : exec (.slti rt rs imm) s =
    s.computed rt (if (s.readReg rs).toInt < (imm.signExtend 32).toInt then 1#32 else 0#32) :=
  congrArg (s.computed rt) (boolWord_lessSigned (s.readReg rs) (signExtendImm imm))

theorem exec_sltiu : exec (.sltiu rt rs imm) s =
    s.computed rt (if (s.readReg rs).toNat < (imm.signExtend 32).toNat then 1#32 else 0#32) :=
  congrArg (s.computed rt) (boolWord_lessUnsigned (s.readReg rs) (signExtendImm imm))

theorem exec_andi : exec (.andi rt rs imm) s = s.computed rt (s.readReg rs &&& imm.zeroExtend 32) := rfl

theorem exec_ori : exec (.ori rt rs imm) s = s.computed rt (s.readReg rs ||| imm.zeroExtend 32) := rfl

theorem exec_xori : exec (.xori rt rs imm) s = s.computed rt (s.readReg rs ^^^ imm.zeroExtend 32) := rfl

theorem exec_lui : exec (.lui rt imm) s = s.computed rt (imm ++ 0#16) := rfl

end

/-- Settles O37: each instruction ends by computing its stated result, and so writes its destination alone; its word is
built of its opcode and operands in the I-type format (30_encoding.md R112). -/
theorem immediateResults : Obligations.ImmediateResults := by
  intro s rt rs imm
  refine ⟨?addiu, ?slti, ?sltiu, ?andi, ?ori, ?xori, ?lui, rfl, rfl, rfl, rfl, rfl, rfl, rfl⟩
  case addiu => exact writesReg_of_computed (exec_addiu s rt rs imm)
  case slti => exact writesReg_of_computed (exec_slti s rt rs imm)
  case sltiu => exact writesReg_of_computed (exec_sltiu s rt rs imm)
  case andi => exact writesReg_of_computed (exec_andi s rt rs imm)
  case ori => exact writesReg_of_computed (exec_ori s rt rs imm)
  case xori => exact writesReg_of_computed (exec_xori s rt rs imm)
  case lui => exact writesReg_of_computed (exec_lui s rt imm)

end Sys2Proof.Machine
end

section
/-! PROOFS (42_computational_reg.md). Each of the register-register instructions that raise nothing as a computed result
(R190). -/

namespace Sys2Proof.Machine

/-! ## The register-register instructions as computed results (R198, R200 to R206) -/

section
variable (s : State) (rd rs rt : Reg)

theorem exec_addu : exec (.addu rd rs rt) s = s.computed rd (s.readReg rs + s.readReg rt) := rfl

theorem exec_subu : exec (.subu rd rs rt) s = s.computed rd (s.readReg rs - s.readReg rt) := rfl

theorem exec_and : exec (.and rd rs rt) s = s.computed rd (s.readReg rs &&& s.readReg rt) := rfl

theorem exec_or : exec (.or rd rs rt) s = s.computed rd (s.readReg rs ||| s.readReg rt) := rfl

theorem exec_xor : exec (.xor rd rs rt) s = s.computed rd (s.readReg rs ^^^ s.readReg rt) := rfl

theorem exec_nor : exec (.nor rd rs rt) s = s.computed rd (~~~(s.readReg rs ||| s.readReg rt)) := rfl

theorem exec_slt : exec (.slt rd rs rt) s =
    s.computed rd (if (s.readReg rs).toInt < (s.readReg rt).toInt then 1#32 else 0#32) :=
  congrArg (s.computed rd) (boolWord_lessSigned (s.readReg rs) (s.readReg rt))

theorem exec_sltu : exec (.sltu rd rs rt) s =
    s.computed rd (if (s.readReg rs).toNat < (s.readReg rt).toNat then 1#32 else 0#32) :=
  congrArg (s.computed rd) (boolWord_lessUnsigned (s.readReg rs) (s.readReg rt))

end

/-- Settles O38: each instruction ends by computing its stated result, and so writes its destination alone; its word is
built of the SPECIAL opcode, its operands and its function code in the R-type format (30_encoding.md R111). -/
theorem registerResults : Obligations.RegisterResults := by
  intro s rd rs rt
  refine ⟨?addu, ?subu, ?and, ?or, ?xor, ?nor, ?slt, ?sltu, rfl, rfl, rfl, rfl, rfl, rfl, rfl, rfl⟩
  case addu => exact writesReg_of_computed (exec_addu s rd rs rt)
  case subu => exact writesReg_of_computed (exec_subu s rd rs rt)
  case and => exact writesReg_of_computed (exec_and s rd rs rt)
  case or => exact writesReg_of_computed (exec_or s rd rs rt)
  case xor => exact writesReg_of_computed (exec_xor s rd rs rt)
  case nor => exact writesReg_of_computed (exec_nor s rd rs rt)
  case slt => exact writesReg_of_computed (exec_slt s rd rs rt)
  case sltu => exact writesReg_of_computed (exec_sltu s rd rs rt)

end Sys2Proof.Machine
end

section
/-! PROOFS (43_multiply_divide.md). How an instruction that writes `hi` and `lo` ends (R220), and the moves to and from
them as such (R221 to R224). -/

namespace Sys2Proof.Machine

/-! ## How an instruction that writes `hi` and `lo` ends -/

/-- Writing `hi` and `lo` and advancing pc leaves all else as it was. -/
theorem onlyHiLo_writeHiLo_advance (s : State) (h l : Word) : OnlyHiLo s (s.writeHiLo h l).advance := by
  simp [OnlyHiLo, SameRegs, SameCp0, SameLink, SameMem, SameModel]

/-- An instruction that ends by writing `hi` and `lo` and advancing pc completes with these values, drawing none. -/
theorem writesHiLo_of_exec_eq {i : Instr} {s : State} {h l : Word}
    (hexec : exec i s = .next (s.writeHiLo h l).advance) : WritesHiLo i s h l :=
  ⟨(s.writeHiLo h l).advance, hexec, onlyHiLo_writeHiLo_advance s h l, by simp, by simp, by simp⟩

/-! ## The moves (R221 to R224) -/

section
variable (s : State) (r : Reg)

theorem exec_mfhi : exec (.mfhi r) s = s.computed r s.hi := rfl

theorem exec_mflo : exec (.mflo r) s = s.computed r s.lo := rfl

theorem exec_mthi : exec (.mthi r) s = .next (s.writeHiLo (s.readReg r) s.lo).advance := rfl

theorem exec_mtlo : exec (.mtlo r) s = .next (s.writeHiLo s.hi (s.readReg r)).advance := rfl

end

/-- Settles O41: the moves from `hi` and `lo` end as computational instructions do, the moves to them by writing the pair
with its other half as it was; each word is built in the R-type format with zero in the unused fields (30_encoding.md
R111, R132). -/
theorem hiLoMoves : Obligations.HiLoMoves := by
  intro s r
  refine ⟨?mfhi, ?mflo, ?mthi, ?mtlo, rfl, rfl, rfl, rfl⟩
  case mfhi => exact writesReg_of_computed (exec_mfhi s r)
  case mflo => exact writesReg_of_computed (exec_mflo s r)
  case mthi => exact writesHiLo_of_exec_eq (exec_mthi s r)
  case mtlo => exact writesHiLo_of_exec_eq (exec_mtlo s r)

end Sys2Proof.Machine
end

section
/-! PROOFS (44_jumps_branches.md). How an instruction that assigns pc ends (R240), and each of the jumps and branches as
such. -/

namespace Sys2Proof.Machine

/-! ## How a jump or a branch ends -/

/-- Assigning pc leaves all but the general registers and pc as it was. -/
theorem sameRest_jumpTo (s : State) (target : Word) : SameRest s (s.jumpTo target) := by
  simp [SameRest, SameSpecial, SameHiLo, SameCp0, SameLink, SameModel, SameMem]

/-- Writing a register and assigning pc leaves all but the general registers and pc as it was. -/
theorem sameRest_writeReg_jumpTo (s : State) (r : Reg) (v target : Word) :
    SameRest s ((s.writeReg r v).jumpTo target) := by
  simp [SameRest, SameSpecial, SameHiLo, SameCp0, SameLink, SameModel, SameMem]

/-- An instruction that ends by assigning pc completes, changing pc alone. -/
theorem setsPc_of_jumpTo {i : Instr} {s : State} {target : Word} (hexec : exec i s = .next (s.jumpTo target)) :
    SetsPc i s target :=
  ⟨s.jumpTo target, hexec, s.jumpTo_pc target, s.jumpTo_readReg target, sameRest_jumpTo s target⟩

/-- A jump that ends by writing its link register and assigning pc completes, changing these alone. -/
theorem links_of_writeReg_jumpTo {i : Instr} {s : State} {r : Reg} {link target : Word}
    (hexec : exec i s = .next ((s.writeReg r link).jumpTo target)) :
    ∃ t, exec i s = .next t ∧ t.pc = target ∧ OnlyReg s t r link ∧ SameRest s t := by
  refine ⟨(s.writeReg r link).jumpTo target, hexec, ?_, ?_, sameRest_writeReg_jumpTo s r link target⟩
  · simp
  · intro q
    simp

/-- The sign-extended displacement shifted left by two is four times the signed displacement (30_encoding.md R116). -/
theorem branchTarget_eq (pc : Word) (imm : Half) :
    branchTarget pc imm = pc + 4#32 + BitVec.ofInt 32 (4 * imm.toInt) := by
  have hshift : signExtendImm imm <<< 2 = BitVec.ofInt 32 (4 * imm.toInt) := by
    rw [← toInt_signExtendImm, BitVec.ofInt_mul, BitVec.ofInt_toInt, BitVec.shiftLeft_eq_mul_twoPow, BitVec.mul_comm]
    rfl
  rw [branchTarget, hshift]

/-- A branch goes to its target exactly when its condition holds, else to pc + 4, and changes pc alone. -/
theorem setsPc_of_branch {i : Instr} {s : State} {taken : Bool} {imm : Half} {cond : Prop} [Decidable cond]
    (hexec : exec i s = s.branch taken imm) (htaken : taken = true ↔ cond) :
    SetsPc i s (if cond then s.pc + 4#32 + BitVec.ofInt 32 (4 * imm.toInt) else s.pc + 4#32) := by
  apply setsPc_of_jumpTo
  rw [hexec, State.branch_eq, branchTarget_eq]
  simp only [htaken]

/-! ## The jumps (R241 to R244) -/

section
variable (s : State) (target : BitVec 26) (rd rs : Reg)

theorem exec_j : exec (.j target) s = .next (s.jumpTo (jumpTarget s.pc target)) := rfl

theorem exec_jal : exec (.jal target) s =
    .next ((s.writeReg 31#5 (s.pc + 4#32)).jumpTo (jumpTarget s.pc target)) := rfl

theorem exec_jr : exec (.jr rs) s = .next (s.jumpTo (s.readReg rs)) := rfl

theorem exec_jalr : exec (.jalr rd rs) s = .next ((s.writeReg rd (s.pc + 4#32)).jumpTo (s.readReg rs)) := rfl

end

/-- Settles O45: J and JR end by assigning pc, JAL and JALR by writing the link and assigning pc the target that was read
before it; each word is built in the J-type or the R-type format (30_encoding.md R111, R113). -/
theorem jumpResults : Obligations.JumpResults := by
  intro s target rd rs
  refine ⟨?j, ?jal, ?jr, ?jalr, rfl, rfl, rfl, rfl⟩
  case j => exact setsPc_of_jumpTo (exec_j s target)
  case jal => exact links_of_writeReg_jumpTo (exec_jal s target)
  case jr => exact setsPc_of_jumpTo (exec_jr s rs)
  case jalr => exact links_of_writeReg_jumpTo (exec_jalr s rd rs)

/-! ## The branches (R245 to R250) -/

section
variable (s : State) (rs rt : Reg) (imm : Half)

theorem exec_beq : exec (.beq rs rt imm) s = s.branch (s.readReg rs == s.readReg rt) imm := rfl

theorem exec_bne : exec (.bne rs rt imm) s = s.branch (s.readReg rs != s.readReg rt) imm := rfl

theorem exec_blez : exec (.blez rs imm) s = s.branch (decide ((s.readReg rs).toInt ≤ 0)) imm := rfl

theorem exec_bgtz : exec (.bgtz rs imm) s = s.branch (decide (0 < (s.readReg rs).toInt)) imm := rfl

theorem exec_bltz : exec (.bltz rs imm) s = s.branch (s.readReg rs).msb imm := rfl

theorem exec_bgez : exec (.bgez rs imm) s = s.branch (!(s.readReg rs).msb) imm := rfl

end

/-- The sign bit is clear exactly in a word that is not negative (R250). -/
theorem not_msb_iff_nonneg (a : Word) : (!a.msb) = true ↔ 0 ≤ a.toInt := by
  rw [Bool.not_eq_true', ← Bool.not_eq_true, msb_iff_neg, Int.not_lt]

/-- Settles O46: each branch ends as branches do, and the Boolean it tests is true exactly when its condition on the
registers holds; each word is built in the I-type format (30_encoding.md R112). -/
theorem branchResults : Obligations.BranchResults := by
  rintro s rs rt imm target rfl
  refine ⟨?beq, ?bne, ?blez, ?bgtz, ?bltz, ?bgez, rfl, rfl, rfl, rfl, rfl, rfl⟩
  case beq => exact setsPc_of_branch (exec_beq s rs rt imm) beq_iff_eq
  case bne => exact setsPc_of_branch (exec_bne s rs rt imm) bne_iff_ne
  case blez => exact setsPc_of_branch (exec_blez s rs imm) decide_eq_true_iff
  case bgtz => exact setsPc_of_branch (exec_bgtz s rs imm) decide_eq_true_iff
  case bltz => exact setsPc_of_branch (exec_bltz s rs imm) (msb_iff_neg (s.readReg rs))
  case bgez => exact setsPc_of_branch (exec_bgez s rs imm) (not_msb_iff_nonneg (s.readReg rs))

end Sys2Proof.Machine
end

section
/-! PROOFS (46_cop2.md). The check all seven Coprocessor 2 instructions begin with (R280, R288), each of them as a
checked ending, and what those endings transfer and leave unchanged (R281 to R287). -/

namespace Sys2Proof.Machine

/-! ## Whether the coprocessor may be used (R280, R288) -/

/-- The rest of an instruction where Coprocessor 2 is attached and usable, else RI. -/
def State.checkCop2 (s : State) (rest : Result) : Result := if s.cop2Refused then s.raise .ri else rest

/-- The coprocessor is usable exactly where its instructions are not refused. -/
theorem cop2Usable_iff (s : State) : Cop2Usable s ↔ s.cop2Refused = false := by
  rw [← Bool.not_eq_true, State.cop2Refused_iff, Cop2Usable, not_or, not_and_or, Bool.not_eq_false, Bool.not_eq_true,
    Bool.not_eq_false]

theorem State.checkCop2_of_usable {s : State} (rest : Result) (h : Cop2Usable s) : s.checkCop2 rest = rest := by
  simp [State.checkCop2, (cop2Usable_iff s).1 h]

theorem State.checkCop2_of_refused {s : State} (rest : Result) (h : s.cop2Refused = true) :
    s.checkCop2 rest = .next (s.trapEntry .ri) := by
  simp [State.checkCop2, State.raise, h]

/-- Where the coprocessor is refused, an instruction that begins with the check takes RI, whatever its rest. -/
theorem traps_of_checkCop2 {i : Instr} {s : State} {rest : Result} (hexec : exec i s = s.checkCop2 rest)
    (hrefused : s.cop2Refused = true) : Traps i s 10#5 :=
  ⟨s.trapEntry .ri, hexec.trans (State.checkCop2_of_refused rest hrefused), trapped_trapEntry s .ri⟩

/-! ## The Coprocessor 2 instructions as checked endings (R281 to R287) -/

section
variable (s : State) (rt rd rs : Reg) (imm : Half) (copfunc : BitVec 25)

theorem exec_mfc2 : exec (.mfc2 rt rd) s = s.checkCop2
    (.next ((s.writeReg rt (Config.c2Read s.c2 rd)).writeC2 (Config.c2AfterRead s.c2 rd)).advance) := rfl

theorem exec_cfc2 : exec (.cfc2 rt rd) s = s.checkCop2
    (.next ((s.writeReg rt (Config.c2ReadCtl s.c2 rd)).writeC2 (Config.c2AfterReadCtl s.c2 rd)).advance) := rfl

theorem exec_mtc2 : exec (.mtc2 rt rd) s = s.checkCop2
    (.next (s.writeC2 (Config.c2Write s.c2 rd (s.readReg rt))).advance) := rfl

theorem exec_ctc2 : exec (.ctc2 rt rd) s = s.checkCop2
    (.next (s.writeC2 (Config.c2WriteCtl s.c2 rd (s.readReg rt))).advance) := rfl

theorem exec_lwc2 : exec (.lwc2 rt rs imm) s = s.checkCop2 (s.checkLoad (s.address rs imm) 4
    (s.writeC2 (Config.c2LoadTarget s.c2 rt (s.load32 (s.address rs imm)))).advance) := rfl

theorem exec_swc2 : exec (.swc2 rt rs imm) s = s.checkCop2 (s.checkStore (s.address rs imm) 4
    ((s.store32 (s.address rs imm) (Config.c2StoreSource s.c2 rt)).writeC2 (Config.c2AfterStore s.c2 rt)).advance) :=
  rfl

theorem exec_cop2 : exec (.cop2 copfunc) s = s.checkCop2
    (.next (s.applyCop2 (Config.c2Op s.c2 copfunc s.regs s.mem s.resets)).advance) := rfl

end

/-! ## A word stored is read back (20_memory.md R72, R73) -/

/-- With at least two address bits the four bytes of a word do not shadow each other, and a load gives the word
stored. -/
theorem State.load32_store32 (s : State) (a v : Word) (hbits : 2 ≤ s.params.paBits) :
    (s.store32 a v).load32 a = v := by
  have hlen : 4 ≤ 2 ^ s.params.paBits := Nat.pow_le_pow_right (n := 2) (by decide) hbits
  have stored := s.load8_storeBytes a
    [v.extractLsb' 24 8, v.extractLsb' 16 8, v.extractLsb' 8 8, v.extractLsb' 0 8] hlen (by simp)
  rw [← State.store32_eq_storeBytes] at stored
  have byte0 : (s.store32 a v).load8 a = v.extractLsb' 24 8 := by simpa using stored 0 (by simp)
  have byte1 : (s.store32 a v).load8 (a + 1#32) = v.extractLsb' 16 8 := stored 1 (by simp)
  have byte2 : (s.store32 a v).load8 (a + 2#32) = v.extractLsb' 8 8 := stored 2 (by simp)
  have byte3 : (s.store32 a v).load8 (a + 3#32) = v.extractLsb' 0 8 := stored 3 (by simp)
  rw [State.load32, byte0, byte1, byte2, byte3, wordOfBytes_bytes]

/-- A word store changes no byte but its four. -/
theorem sameMemOutside_store32 (s : State) (a v : Word) : SameMemOutside s (s.store32 a v) a 4 := by
  intro p hne
  have hfirst : s.physical p ≠ s.physical a := by simpa using hne 0 (by decide)
  exact s.load8_store32_of_ne a p v hfirst (hne 1 (by decide)) (hne 2 (by decide)) (hne 3 (by decide))

/-! ## What each ending transfers and leaves unchanged -/

/-- A move from the coprocessor writes its general register alone, the coprocessor apart (R281, R283). -/
theorem movesFromCop2 {i : Instr} {s : State} {r : Reg} {v : Word} {c : Nat}
    (hexec : exec i s = .next ((s.writeReg r v).writeC2 c).advance) :
    ∃ t, exec i s = .next t ∧ t.pc = s.pc + 4#32 ∧ OnlyReg s t r v ∧ SameSpecial s t ∧ SameMem s t := by
  refine ⟨((s.writeReg r v).writeC2 c).advance, hexec, ?_, ?_, ?_, ?_⟩
  · simp
  · intro q
    simp
  · simp [SameSpecial, SameHiLo, SameCp0, SameLink, SameModel]
  · intro p
    simp

/-- A move to the coprocessor changes its state and pc alone (R282, R284); so does a load to it (R285). -/
theorem movesToCop2 {i : Instr} {s : State} {c : Nat} (hexec : exec i s = .next (s.writeC2 c).advance) :
    ∃ t, exec i s = .next t ∧ t.pc = s.pc + 4#32 ∧ t.c2 = c ∧ SameRegs s t ∧ SameSpecial s t ∧ SameMem s t := by
  refine ⟨(s.writeC2 c).advance, hexec, ?_, ?_, ?_, ?_, ?_⟩
  · simp
  · simp
  · intro q
    simp
  · simp [SameSpecial, SameHiLo, SameCp0, SameLink, SameModel]
  · intro p
    simp

/-- A store from the coprocessor stores its word, and changes no other byte and no general register (R286). -/
theorem storesFromCop2 {i : Instr} {s : State} {a v : Word} {c : Nat}
    (hexec : exec i s = .next ((s.store32 a v).writeC2 c).advance) :
    ∃ t, exec i s = .next t ∧ t.pc = s.pc + 4#32 ∧ SameRegs s t ∧ SameSpecial s t ∧ SameMemOutside s t a 4 ∧
      (2 ≤ s.params.paBits → t.load32 a = v) := by
  refine ⟨((s.store32 a v).writeC2 c).advance, hexec, ?_, ?_, ?_, ?_, ?_⟩
  · simp
  · intro q
    simp
  · simp [SameSpecial, SameHiLo, SameCp0, SameLink, SameModel]
  · exact sameMemOutside_store32 s a v
  · exact s.load32_store32 a v

/-- Whatever a COP2 operation writes, it is general registers, memory and the coprocessor (R287; log 8). -/
theorem applyCop2_frame (s : State) (e : Cop2Effect) : (s.applyCop2 e).pc = s.pc ∧ SameSpecial s (s.applyCop2 e) := by
  refine State.applyCop2_induction (P := fun t => t.pc = s.pc ∧ SameSpecial s t) s e ?_ ?_ ?_
  · simp [SameSpecial, SameHiLo, SameCp0, SameLink, SameModel]
  · exact fun t r v h => h
  · exact fun t a b h => h

/-- A COP2 operation completes, changing neither `hi`, `lo`, CP0 nor the link. -/
theorem completes_of_applyCop2 {i : Instr} {s : State} {e : Cop2Effect}
    (hexec : exec i s = .next (s.applyCop2 e).advance) :
    ∃ t, exec i s = .next t ∧ t.pc = s.pc + 4#32 ∧ SameSpecial s t := by
  obtain ⟨hpc, hspecial⟩ := applyCop2_frame s e
  exact ⟨(s.applyCop2 e).advance, hexec, by rw [State.advance_pc, hpc], hspecial⟩

/-- Settles O58: where the coprocessor is usable each instruction goes on to its ending, that of LWC2 and SWC2 being a
checked load and a checked store; in a user mode that may not use it, each takes RI. -/
theorem attachedCop2Completes : Obligations.AttachedCop2Completes := by
  rintro s rt rd rs imm copfunc a rfl
  have mfc2 := exec_mfc2 s rt rd
  have cfc2 := exec_cfc2 s rt rd
  have mtc2 := exec_mtc2 s rt rd
  have ctc2 := exec_ctc2 s rt rd
  have lwc2 := exec_lwc2 s rt rs imm
  have swc2 := exec_swc2 s rt rs imm
  have cop2 := exec_cop2 s copfunc
  refine ⟨fun husable => ?usable, fun huser => ?user⟩
  case usable =>
    rw [State.checkCop2_of_usable _ husable] at mfc2 cfc2 mtc2 ctc2 lwc2 swc2 cop2
    refine ⟨movesFromCop2 mfc2, movesFromCop2 cfc2, movesToCop2 mtc2, movesToCop2 ctc2, completes_of_applyCop2 cop2,
      fun hok => ?permitted, fun hbad => ⟨trapsAt_of_checkLoad lwc2 hbad, trapsAt_of_checkStore swc2 hbad⟩⟩
    case permitted =>
      have haligned := (accessOk_iff s (s.address rs imm) 4).1 hok
      rw [State.checkLoad_of_ok _ haligned] at lwc2
      rw [State.checkStore_of_ok _ haligned] at swc2
      exact ⟨movesToCop2 lwc2, storesFromCop2 swc2⟩
  case user =>
    refine (Bool.eq_false_or_eq_true Config.c2UserUsable).imp_right fun hforbidden => ?_
    have hrefused : s.cop2Refused = true := s.cop2Refused_iff.2 (.inr ⟨huser, hforbidden⟩)
    exact ⟨traps_of_checkCop2 mfc2 hrefused, traps_of_checkCop2 mtc2 hrefused, traps_of_checkCop2 cfc2 hrefused,
      traps_of_checkCop2 ctc2 hrefused, traps_of_checkCop2 lwc2 hrefused, traps_of_checkCop2 swc2 hrefused,
      traps_of_checkCop2 cop2 hrefused⟩

end Sys2Proof.Machine
end

section
/-! PROOFS (60_exceptions.md R342). What an instruction and the environment can do to `status`, where the mode is: the
endings the instructions share keep it unless they trap, and what is left is ERET and an MTC0 to register 12. -/

namespace Sys2Proof.Machine

/-! ## The environment does not touch `status` (R300 part E) -/

@[simp] theorem State.storeWidth_status (s : State) (width : Width) (addr v : Word) :
    (s.storeWidth width addr v).status = s.status := by
  cases width <;> simp [State.storeWidth]

@[simp] theorem State.otherSC_status (s : State) (addr v : Word) : (s.otherSC addr v).status = s.status := by
  simp [State.otherSC]

@[simp] theorem State.envAction_status (s : State) (a : EnvAction) : (s.envAction a).status = s.status := by
  cases a with
  | otherStore width addr v =>
    simp only [State.envAction]
    split <;> simp
  | otherSC addr v =>
    simp only [State.envAction]
    split <;> simp
  | tick | hostWriteFromhost | hostReadTohost | hostSetIP6 | clearLink => rfl

/-- The clock, the host and the other processors do not reach `status`. -/
@[simp] theorem State.environment_status (s : State) : s.environment.status = s.status := by
  refine State.environment_induction (P := fun t => t.status = s.status) s ?clock ?tail ?action
  case clock => simp
  case tail => rfl
  case action =>
    intro t a _ ih
    rw [State.envAction_status, ih]

/-! ## The ways an instruction ends, seen from what it completes with -/

/-- The answer, where it is a state, is a trap entry from `s` or has the property. -/
def TrapsOrCompletes (s : State) (P : State → Prop) (r : Result) : Prop :=
  ∀ t, r = .next t → (∃ e, t = s.trapEntry e) ∨ P t

section
variable {s : State} {P : State → Prop}

theorem trapsOrCompletes_raise (e : Exc) : TrapsOrCompletes s P (s.raise e) := by
  rintro t ⟨⟩
  exact .inl ⟨e, rfl⟩

theorem trapsOrCompletes_next {u : State} (hu : P u) : TrapsOrCompletes s P (.next u) := by
  rintro t ⟨⟩
  exact .inr hu

theorem trapsOrCompletes_ite {c : Prop} [Decidable c] {q r : Result} (hq : TrapsOrCompletes s P q)
    (hr : TrapsOrCompletes s P r) : TrapsOrCompletes s P (if c then q else r) := by
  split
  · exact hq
  · exact hr

/-- A check that raises RI, Ov or an address error where it fails leaves the rest to satisfy the property. -/
theorem trapsOrCompletes_check {c : Prop} [Decidable c] {e : Exc} {r : Result} (hr : TrapsOrCompletes s P r) :
    TrapsOrCompletes s P (if c then s.raise e else r) :=
  trapsOrCompletes_ite (trapsOrCompletes_raise e) hr

theorem trapsOrCompletes_checkLoad {a : Word} {n : Nat} {done : State} (hdone : P done) :
    TrapsOrCompletes s P (s.checkLoad a n done) :=
  trapsOrCompletes_check (trapsOrCompletes_next hdone)

theorem trapsOrCompletes_checkStore {a : Word} {n : Nat} {done : State} (hdone : P done) :
    TrapsOrCompletes s P (s.checkStore a n done) :=
  trapsOrCompletes_check (trapsOrCompletes_next hdone)

theorem trapsOrCompletes_checkCop2 {rest : Result} (hrest : TrapsOrCompletes s P rest) :
    TrapsOrCompletes s P (s.checkCop2 rest) :=
  trapsOrCompletes_check hrest

end

/-! ## The writers of `status` -/

theorem State.cp0Write_status_of_ne {s : State} {n : Reg} {v : Word} (hn : n ≠ 12#5) :
    (s.cp0Write n v).status = s.status := by
  unfold State.cp0Write
  split
  · rfl
  · rfl
  · exact absurd rfl hn
  · rfl
  · rfl

@[simp] theorem State.applyCop2_status (s : State) (e : Cop2Effect) : (s.applyCop2 e).status = s.status := by
  obtain ⟨-, -, hcp0, -⟩ := applyCop2_frame s e
  exact hcp0.1

/-- What an instruction that completes does to `status`: nothing, but for ERET and an MTC0 to register 12. -/
def StatusAfter (i : Instr) (s t : State) : Prop :=
  t.status = s.status ∨ (i = .eret ∧ t.status = s.status.pop) ∨
    ∃ rt, i = .mtc0 rt 12#5 ∧ t.status = statusOfWord (s.readReg rt)

/-- An MTC0 that is run sets `status` if it names register 12, and leaves it alone if it names another (R51). -/
theorem statusAfter_mtc0 (s : State) (rt rd : Reg) :
    StatusAfter (.mtc0 rt rd) s (s.cp0Write rd (s.readReg rt)).advance := by
  by_cases hrd : rd = 12#5
  · subst hrd
    exact .inr (.inr ⟨rt, rfl, rfl⟩)
  · exact .inl (State.cp0Write_status_of_ne hrd)

/-- Every instruction takes a trap, or does to `status` what R342 lists. -/
theorem exec_trapsOrCompletes_statusAfter (i : Instr) (s : State) :
    TrapsOrCompletes s (StatusAfter i s) (exec i s) := by
  cases i with
  | lb | lh | lw | lbu | lhu | ll => exact trapsOrCompletes_checkLoad (.inl rfl)
  | sb | sh | sw => exact trapsOrCompletes_checkStore (.inl rfl)
  | sc => exact trapsOrCompletes_checkStore (.inl (by cases s.linkValid <;> rfl))
  | addi | add | sub => exact trapsOrCompletes_check (trapsOrCompletes_next (.inl rfl))
  | addiu | slti | sltiu | andi | ori | xori | lui => exact trapsOrCompletes_next (.inl rfl)
  | sll | srl | sra | sllv | srlv | srav => exact trapsOrCompletes_next (.inl rfl)
  | addu | subu | and | or | xor | nor | slt | sltu => exact trapsOrCompletes_next (.inl rfl)
  | mfhi | mthi | mflo | mtlo | mult | multu => exact trapsOrCompletes_next (.inl rfl)
  | div | divu => exact trapsOrCompletes_ite (trapsOrCompletes_next (.inl rfl)) (trapsOrCompletes_next (.inl rfl))
  | j | jal | jr | jalr => exact trapsOrCompletes_next (.inl rfl)
  | beq | bne | blez | bgtz | bltz | bgez =>
    show TrapsOrCompletes s _ (s.branch _ _)
    rw [State.branch_eq]
    exact trapsOrCompletes_next (.inl rfl)
  | mfc0 => exact trapsOrCompletes_check (trapsOrCompletes_next (.inl rfl))
  | mtc0 rt rd => exact trapsOrCompletes_check (trapsOrCompletes_next (statusAfter_mtc0 s rt rd))
  | eret => exact trapsOrCompletes_check (trapsOrCompletes_next (.inr (.inl ⟨rfl, rfl⟩)))
  | mfc2 | mtc2 | cfc2 | ctc2 => exact trapsOrCompletes_checkCop2 (trapsOrCompletes_next (.inl rfl))
  | lwc2 => exact trapsOrCompletes_checkCop2 (trapsOrCompletes_checkLoad (.inl rfl))
  | swc2 =>
    rw [exec_swc2]
    exact trapsOrCompletes_checkCop2 (trapsOrCompletes_checkStore (.inl (by simp)))
  | cop2 =>
    rw [exec_cop2]
    exact trapsOrCompletes_checkCop2 (trapsOrCompletes_next (.inl (by simp)))
  | syscall => exact trapsOrCompletes_raise .sys
  | brk => exact trapsOrCompletes_raise .bp
  | sync => exact trapsOrCompletes_next (.inl rfl)

/-- Fetching, decoding and executing takes a trap, or does to `status` what the instruction at pc does. -/
theorem State.runInstruction_status {s t : State} (h : s.runInstruction = .next t) :
    (∃ e, t = s.trapEntry e) ∨ ∃ i, decodeWord (s.load32 s.pc) = .instr i ∧ StatusAfter i s t := by
  obtain ⟨-, -, htrap⟩ | ⟨-, w, why, -, -, htrap⟩ | ⟨w, i, hfetch, hdecode, -, hexec⟩ := State.runInstruction_next h
  · exact .inl ⟨.adEF, htrap⟩
  · exact .inl ⟨.ri, htrap⟩
  · obtain ⟨-, rfl⟩ := State.fetch_eq_some.1 hfetch
    exact (exec_trapsOrCompletes_statusAfter i s t hexec).imp_right fun hstatus => ⟨i, hdecode, hstatus⟩

/-! ## The mode (R342) -/

/-- Where CP0 is usable its instructions are not refused (10_state.md R31). -/
theorem cop0Usable_iff (s : State) : Cop0Usable s ↔ s.cop0Refused = false := by
  rw [← Bool.not_eq_true, State.cop0Refused_iff, Cop0Usable, not_and_or, Bool.not_eq_true, Bool.not_eq_false]

theorem exec_eret_of_usable {s : State} (h : Cop0Usable s) : exec .eret s = .next s.returnFromException := by
  simp [exec, execEret, (cop0Usable_iff s).1 h]

theorem exec_mtc0_of_usable {s : State} (h : Cop0Usable s) (rt rd : Reg) :
    exec (.mtc0 rt rd) s = .next (s.cp0Write rd (s.readReg rt)).advance := by
  simp [exec, execMtc0, (cop0Usable_iff s).1 h]

/-- A step that is neither a reset nor a trap entry leaves the mode as it was, or runs one of the two instructions that
set it. -/
theorem step_mode {s t : State} (h : step s = .next t) :
    t.status.kuc = s.status.kuc ∨ (s.nextInput.reset = true ∧ t.status.kuc = false) ∨
    (∃ e, t = s.environment.trapEntry e) ∨
    (NextInstruction s .eret ∧ t.status.kuc = s.status.kup) ∨
    (∃ rt, NextInstruction s (.mtc0 rt 12#5) ∧ t.status.kuc = (s.environment.readReg rt).getLsbD 1) := by
  obtain ⟨hreset, rfl⟩ | ⟨-, -, -, -, htaken⟩ | ⟨-, hrun⟩ := step_next h
  · exact .inr (.inl ⟨hreset, rfl⟩)
  · exact .inr (.inr (.inl ⟨_, htaken⟩))
  · obtain htrap | ⟨i, hnext, hsame | ⟨rfl, hpop⟩ | ⟨rt, rfl, hwritten⟩⟩ := State.runInstruction_status hrun
    · exact .inr (.inr (.inl htrap))
    · exact .inl (by rw [hsame, State.environment_status])
    · exact .inr (.inr (.inr (.inl ⟨hnext, by rw [hpop, State.environment_status]; rfl⟩)))
    · exact .inr (.inr (.inr (.inr ⟨rt, hnext, by rw [hwritten]; rfl⟩)))

/-- Settles O17: by cases on what the step does for the list, and each entry of it by the operation it names. -/
theorem modeChangesOnlyAsListed : Obligations.ModeChangesOnlyAsListed := by
  refine ⟨fun s t => step_mode, ⟨rfl, fun s => rfl⟩, fun s e => ⟨rfl, rfl⟩, ?eret, ?mtc0⟩
  case eret => exact fun s husable => ⟨s.returnFromException, exec_eret_of_usable husable, rfl⟩
  case mtc0 => exact fun s rt husable => ⟨_, exec_mtc0_of_usable husable rt 12#5, rfl⟩

end Sys2Proof.Machine
end

section
/-! PROOFS (60_exceptions.md R305, R311, R312, R320). When an interrupt is ready and which one is taken, and trap entry
for every exception and interrupt. -/

namespace Sys2Proof.Machine

/-! ## When an interrupt is ready (R311) -/

theorem State.hintReady_iff (s : State) :
    s.hintReady = true ↔ s.cause.ip6 = true ∧ s.status.im6 = true ∧ s.status.iec = true := by
  rw [State.hintReady, Bool.and_eq_true, Bool.and_eq_true]
  tauto

theorem State.tintReady_iff (s : State) :
    s.tintReady = true ↔ s.cause.ip7 = true ∧ s.status.im7 = true ∧ s.status.iec = true := by
  rw [State.tintReady, Bool.and_eq_true, Bool.and_eq_true]
  tauto

theorem State.interruptEnabledPending_iff (s : State) :
    s.interruptEnabledPending = true ↔ s.hintReady = true ∨ s.tintReady = true := by
  rw [State.interruptEnabledPending, Bool.or_eq_true]

/-- Either interrupt needs the global enable. -/
theorem State.iec_of_interruptEnabledPending {s : State} (h : s.interruptEnabledPending = true) :
    s.status.iec = true := by
  obtain hhost | htimer := s.interruptEnabledPending_iff.1 h
  · exact (s.hintReady_iff.1 hhost).2.2
  · exact (s.tintReady_iff.1 htimer).2.2

/-- With one enabled and pending, the host's is ready exactly where its flag and its mask are set. -/
theorem State.hintReady_iff_of_pending {s : State} (h : s.interruptEnabledPending = true) :
    s.hintReady = true ↔ s.cause.ip6 = true ∧ s.status.im6 = true := by
  simp [State.hintReady_iff, State.iec_of_interruptEnabledPending h]

/-! ## Which interrupt is taken (R311, R312) -/

theorem State.takeInterrupt_of_hint {s : State} (h : s.hintReady = true) : s.takeInterrupt = s.trapEntry .hint := by
  rw [State.takeInterrupt, if_pos h]

theorem State.takeInterrupt_of_not_hint {s : State} (h : s.hintReady = false) :
    s.takeInterrupt = s.trapEntry .tint := by
  rw [State.takeInterrupt, if_neg (by simp [h])]

/-- The two interrupts lead to different states, since ExcCode tells them apart. -/
theorem State.trapEntry_hint_ne_tint (s : State) : s.trapEntry .hint ≠ s.trapEntry .tint := by
  intro h
  have hcode : Exc.hint.code = Exc.tint.code := congrArg (fun t : State => t.cause.excCode) h
  exact absurd hcode (by decide)

theorem State.takeInterrupt_eq_hint_iff (s : State) : s.takeInterrupt = s.trapEntry .hint ↔ s.hintReady = true := by
  refine ⟨fun htaken => ?_, State.takeInterrupt_of_hint⟩
  by_contra hnot
  rw [State.takeInterrupt_of_not_hint (Bool.eq_false_iff.2 hnot)] at htaken
  exact s.trapEntry_hint_ne_tint htaken.symm

theorem State.takeInterrupt_eq_tint_iff (s : State) : s.takeInterrupt = s.trapEntry .tint ↔ s.hintReady = false := by
  refine ⟨fun htaken => Bool.eq_false_iff.2 fun hhost => ?_, State.takeInterrupt_of_not_hint⟩
  rw [State.takeInterrupt_of_hint hhost] at htaken
  exact s.trapEntry_hint_ne_tint htaken

/-- Settles O11: taking the interrupt is trap entry, for the host's where its flag and its mask are set, else for the
timer's. -/
theorem interruptEntry : Obligations.InterruptEntry := by
  intro s hpending
  have hhost := State.hintReady_iff_of_pending hpending
  split
  case isTrue hflags =>
    rw [State.takeInterrupt_of_hint (hhost.2 hflags)]
    exact trapped_trapEntry s .hint
  case isFalse hflags =>
    rw [State.takeInterrupt_of_not_hint (Bool.eq_false_iff.2 fun h => hflags (hhost.1 h))]
    exact trapped_trapEntry s .tint

/-- Settles O10: the flags, masks and enable as the definitions of R311 have them; of those pending, the timer's is
taken exactly where the host's is not ready, and is then itself the one that is. -/
theorem interruptNeedsFlagMaskAndEnable : Obligations.InterruptNeedsFlagMaskAndEnable := by
  intro s
  refine ⟨s.hintReady_iff, s.tintReady_iff, s.interruptEnabledPending_iff, fun hpending =>
    ⟨s.takeInterrupt_eq_hint_iff, ?timer⟩⟩
  case timer =>
    rw [State.takeInterrupt_eq_tint_iff, iff_and_self]
    intro hnot
    exact (s.interruptEnabledPending_iff.1 hpending).resolve_left (by simp [hnot])

/-! ## Trap entry (R320) -/

/-- Settles O35: trap entry is trapping with the exception's code, the address errors put their address in `badvaddr`,
and the codes are those of R305. -/
theorem trapEntryEffect : Obligations.TrapEntryEffect := by
  intro s
  exact ⟨trapped_trapEntry s, fun a => ⟨rfl, rfl, rfl, rfl⟩, rfl, rfl, rfl, rfl, rfl, rfl, rfl⟩

end Sys2Proof.Machine
end

section
/-! PROOFS (30_encoding.md). Decoding inverts the encoder (R111 to R114), and a word that satisfies the mask and match
of a row of the opcode table (R125) decodes to an instruction of that row. -/

namespace Sys2Proof

/-! ## Decoding the word of an instruction -/

theorem fieldCo_encodeR (op : BitVec 6) (rs rt rd sh : BitVec 5) (funct : BitVec 6) :
    fieldCo (encodeR op rs rt rd sh funct) = rs.extractLsb' 4 1 := by
  rw [fieldCo_eq, fieldRs_encodeR]

/-- The fields of the encoder's word select the instruction's row in each map, and its operands are read back from
them. -/
theorem decodeWord_encode (i : Instr) : decodeWord (encode i) = .instr i := by
  cases i
  case eret => rfl
  case sync => rfl
  case mfc2 | mtc2 | cfc2 | ctc2 =>
    simp [encode, decodeWord, decodeCop2, whenZero, coprocessorMoveZero, fieldCo_encodeR]
  case cop2 => simp [encode, decodeWord, decodeCop2]
  case mfc0 | mtc0 => simp [encode, decodeWord, decodeCop0, whenZero, coprocessorMoveZero]
  case bltz | bgez => simp [encode, decodeWord, decodeRegimm]
  all_goals simp [encode, decodeWord, decodeSpecial, whenZero]

/-! ## The fields of a word that satisfies a mask and match -/

theorem and_mask_fields {w mask pattern : Word} (h : w &&& mask = pattern) :
    fieldOpcode w &&& mask.extractLsb' 26 6 = pattern.extractLsb' 26 6 ∧
    fieldRs w &&& mask.extractLsb' 21 5 = pattern.extractLsb' 21 5 ∧
    fieldRt w &&& mask.extractLsb' 16 5 = pattern.extractLsb' 16 5 ∧
    fieldRd w &&& mask.extractLsb' 11 5 = pattern.extractLsb' 11 5 ∧
    fieldShamt w &&& mask.extractLsb' 6 5 = pattern.extractLsb' 6 5 ∧
    fieldFunct w &&& mask.extractLsb' 0 6 = pattern.extractLsb' 0 6 := by
  subst h
  simp only [fieldOpcode, fieldRs, fieldRt, fieldRd, fieldShamt, fieldFunct, BitVec.extractLsb'_and, and_self]

/-- A mask of ones keeps a six-bit field. -/
theorem and_mask_six (x : BitVec 6) : x &&& 0x3f#6 = x := BitVec.and_allOnes

/-- A mask of ones keeps a five-bit field. -/
theorem and_mask_five (x : BitVec 5) : x &&& 0x1f#5 = x := BitVec.and_allOnes

theorem fieldCo_of_fieldRs {w : Word} {rs : Reg} (h : fieldRs w = rs) : fieldCo w = rs.extractLsb' 4 1 := by
  rw [fieldCo_eq, h]

/-- The mask of COP2 keeps of the `rs` field its top bit alone, which is bit 25 (R114). -/
theorem fieldCo_of_fieldRs_and {w : Word} (h : fieldRs w &&& 0x10#5 = 0x10#5) : fieldCo w = 1#1 := by
  have hbit : (fieldRs w).extractLsb' 4 1 &&& 1#1 = 1#1 := by
    simpa [BitVec.extractLsb'_and] using congrArg (fun x : BitVec 5 => x.extractLsb' 4 1) h
  rw [fieldCo_eq]
  exact BitVec.and_allOnes.symm.trans hbit

/-! ERET and SYNC have no operand, so their masks fix every field. -/

theorem encode_eret : encode .eret = encodeR 0x10#6 0x10#5 0#5 0#5 0#5 0x18#6 := rfl

theorem encode_sync : encode .sync = encodeR 0x00#6 0#5 0#5 0#5 0#5 0x0f#6 := rfl

/-- A word that satisfies a row's mask and match decodes to an instruction of that row (R120, R125). -/
theorem decodeWord_of_and_mask {w : Word} {i : Instr} (h : w &&& i.row.mask = i.row.pattern) :
    ∃ j, decodeWord w = .instr j ∧ j.row = i.row := by
  have hfields := and_mask_fields h
  clear h
  cases i
  all_goals simp only [Instr.row] at hfields
  all_goals
    simp only [BitVec.reduceExtractLsb', and_mask_six, and_mask_five, BitVec.and_zero, true_and, and_true] at hfields
  case eret =>
    have hword : encode .eret = w := encode_eret.trans (encodeR_eq_iff.2 hfields)
    exact ⟨.eret, hword ▸ decodeWord_encode .eret, rfl⟩
  case sync =>
    have hword : encode .sync = w := encode_sync.trans (encodeR_eq_iff.2 hfields)
    exact ⟨.sync, hword ▸ decodeWord_encode .sync, rfl⟩
  case cop2 =>
    obtain ⟨hop, hco⟩ := hfields
    exact ⟨.cop2 (fieldCopfunc w), by simp [decodeWord, decodeCop2, hop, fieldCo_of_fieldRs_and hco], rfl⟩
  case mfc2 | mtc2 | cfc2 | ctc2 =>
    obtain ⟨hop, hrs, hsh, hfunct⟩ := hfields
    simp [decodeWord, decodeCop2, whenZero, hop, hrs, hsh, hfunct, fieldCo_of_fieldRs hrs]
    rfl
  all_goals
    simp [decodeWord, decodeSpecial, decodeRegimm, decodeCop0, whenZero, hfields]
    rfl

/-- Every row of the table is the row of an instruction. -/
theorem exists_instr_of_mem_opcodeTable : ∀ r ∈ opcodeTable, ∃ i : Instr, i.row = r := by
  unfold opcodeTable
  simp only [List.forall_mem_append, List.forall_mem_cons, List.not_mem_nil, false_imp_iff, implies_true, and_true]
  and_intros <;> exact ⟨_, rfl⟩

/-- A row that a word matches is the row of the instruction it decodes to. -/
theorem exists_decodeWord_of_mem_opcodeTable {w : Word} {r : Row} (hr : r ∈ opcodeTable)
    (h : w &&& r.mask = r.pattern) : ∃ j, decodeWord w = .instr j ∧ j.row = r := by
  obtain ⟨i, rfl⟩ := exists_instr_of_mem_opcodeTable r hr
  exact decodeWord_of_and_mask h

/-! ## The obligations -/

/-- Settles O1, by cases on the instruction. -/
theorem decodeInvertsEncode : Obligations.DecodeInvertsEncode := decodeWord_encode

/-- Settles O2: decoding drops no bit. -/
theorem encodeInvertsDecode : Obligations.EncodeInvertsDecode := decodeWord_faithful

/-- Settles O3: a word that decodes matches its instruction's row, and one that matches a row decodes. -/
theorem wordsDecodeExactlyByTheTable : Obligations.WordsDecodeExactlyByTheTable := by
  intro w
  constructor
  · rintro ⟨i, hi⟩
    exact ⟨i.row, i.row_mem_opcodeTable, and_mask_of_decodeWord hi⟩
  · rintro ⟨r, hr, hmatch⟩
    obtain ⟨j, hj, -⟩ := exists_decodeWord_of_mem_opcodeTable hr hmatch
    exact ⟨j, hj⟩

/-- Settles O4: both rows are the row of the one instruction the word decodes to. -/
theorem noWordMatchesTwoRows : Obligations.NoWordMatchesTwoRows := by
  intro w r q hr hq hwr hwq
  obtain ⟨i, hi, rfl⟩ := exists_decodeWord_of_mem_opcodeTable hr hwr
  obtain ⟨j, hj, rfl⟩ := exists_decodeWord_of_mem_opcodeTable hq hwq
  have hij : Decoded.instr i = .instr j := hi.symm.trans hj
  rw [Decoded.instr.inj hij]

/-- Settles O5: each word is decoded by evaluation. -/
theorem writtenOutWordsDecode : Obligations.WrittenOutWordsDecode :=
  ⟨rfl, rfl, rfl, rfl, rfl, rfl, rfl, rfl, rfl, rfl, rfl, rfl, rfl, rfl⟩

end Sys2Proof
end

section
/-! PROOFS (10_state.md, 20_memory.md). Registers, bytes of memory and the words made of them, the clock's ticks, and
what the host and the other processors do between two instructions. -/

namespace Sys2Proof.Machine

/-! ## Registers and bytes (10_state.md R21; 20_memory.md R71) -/

/-- Settles O28, by the rule for reading a register after a write (R21). -/
theorem registerWriteReadsBack : Obligations.RegisterWriteReadsBack := by
  intro s r v
  refine ⟨s.readReg_zero, fun q => ?zero, fun hr => ?same, fun q hq => ?other⟩
  case zero => simp
  case same => simp [hr]
  case other => simp [hq]

theorem State.load8_congr {s : State} {a b : Word} (h : s.physical a = s.physical b) : s.load8 a = s.load8 b := by
  rw [State.load8, State.load8, h]

/-- Settles O29: which byte is read and which is written depends on the physical address alone. -/
theorem shadowedAddressesNameOneByte : Obligations.ShadowedAddressesNameOneByte := by
  intro s a b v
  refine ⟨fun hsame => ⟨State.load8_congr hsame, ?stored⟩, fun hother => ?kept⟩
  case stored => rw [State.load8_store8, if_pos (show s.physical b = s.physical a from hsame.symm)]
  case kept => rw [State.load8_store8, if_neg (show ¬ s.physical b = s.physical a from fun h => hother h.symm)]

/-! ## A stored word (20_memory.md R72, R73) -/

/-- The four bytes of a stored word, most significant first, where there are enough address bits to tell them apart. -/
theorem State.load8_store32 (s : State) (a v : Word) (hbits : 2 ≤ s.params.paBits) :
    (s.store32 a v).load8 a = v.extractLsb' 24 8 ∧ (s.store32 a v).load8 (a + 1#32) = v.extractLsb' 16 8 ∧
    (s.store32 a v).load8 (a + 2#32) = v.extractLsb' 8 8 ∧ (s.store32 a v).load8 (a + 3#32) = v.extractLsb' 0 8 := by
  have hlen : 4 ≤ 2 ^ s.params.paBits := Nat.pow_le_pow_right (n := 2) (by decide) hbits
  have stored := s.load8_storeBytes a
    [v.extractLsb' 24 8, v.extractLsb' 16 8, v.extractLsb' 8 8, v.extractLsb' 0 8] hlen (by simp)
  rw [← State.store32_eq_storeBytes] at stored
  exact ⟨by simpa using stored 0 (by simp), stored 1 (by simp), stored 2 (by simp), stored 3 (by simp)⟩

/-- Settles O30: the halfwords and the word are put together again from the stored bytes. -/
theorem mixedWidthAccessIsBigEndian : Obligations.MixedWidthAccessIsBigEndian := by
  intro s a v hbits _
  obtain ⟨hbyte0, hbyte1, hbyte2, hbyte3⟩ := s.load8_store32 a v hbits
  refine ⟨hbyte0, hbyte1, hbyte2, hbyte3, ?high, ?low, s.load32_store32 a v hbits⟩
  case high =>
    rw [State.load16, hbyte0, hbyte1]
    exact append_extracts v 16 8 8
  case low =>
    have hnext : a + 2#32 + 1#32 = a + 3#32 := by rw [BitVec.add_assoc]; rfl
    rw [State.load16, hnext, hbyte2, hbyte3]
    exact append_extracts v 0 8 8

/-! ## The fetch of a stored word (20_memory.md R98) -/

@[simp] theorem State.jumpTo_load32 (s : State) (target p : Word) : (s.jumpTo target).load32 p = s.load32 p := rfl

@[simp] theorem State.advance_load32 (s : State) (p : Word) : s.advance.load32 p = s.load32 p := rfl

theorem exec_sw_of_ok {s : State} {rt rs : Reg} {imm : Half} (hok : AccessOk s (s.address rs imm) 4) :
    exec (.sw rt rs imm) s = .next (s.store32 (s.address rs imm) (s.readReg rt)).advance :=
  State.checkStore_of_ok _ ((accessOk_iff s _ 4).1 hok)

/-- Settles O31: the store keeps the mode, so the fetch passes the check that the store passed, and reads the word
back. -/
theorem storedWordIsFetched : Obligations.StoredWordIsFetched := by
  intro s t rt rs imm hbits hok hexec
  rw [exec_sw_of_ok hok] at hexec
  obtain rfl := Host.Outcome.next.inj hexec
  have hword := s.load32_store32 (s.address rs imm) (s.readReg rt) hbits
  show (State.jumpTo _ (s.address rs imm)).fetch = some (s.readReg rt)
  rw [State.fetch_eq_some]
  simpa using ⟨(accessOk_iff s _ 4).1 hok, hword⟩

/-! ## The clock (10_state.md R35) -/

/-- The flag a run of one tick more leaves: `compare` is met on the way, or by the last tick. -/
theorem meets_compare_succ (count compare : Word) (n : Nat) :
    (compare - count - 1#32).toNat < n + 1 ↔
      (compare - count - 1#32).toNat < n ∨ count + BitVec.ofNat 32 n + 1#32 = compare := by
  have hlast : count + BitVec.ofNat 32 n + 1#32 = compare ↔ (compare - count - 1#32).toNat = n % 2 ^ 32 := by
    rw [← BitVec.toNat_ofNat, ← BitVec.toNat_eq]
    grind
  rw [hlast]
  have := (compare - count - 1#32).isLt
  omega

theorem State.ticks_zero (s : State) : s.ticks 0 = s := by
  simp [State.ticks]

theorem State.ticks_succ (s : State) (n : Nat) : s.ticks (n + 1) = (s.ticks n).tick := by
  have hcount : s.count + BitVec.ofNat 32 (n + 1) = s.count + BitVec.ofNat 32 n + 1#32 := by
    rw [BitVec.add_assoc, BitVec.ofNat_add]
  have hflag : decide ((s.compare - s.count - 1#32).toNat < n + 1) =
      (decide ((s.compare - s.count - 1#32).toNat < n) || s.count + BitVec.ofNat 32 n + 1#32 == s.compare) := by
    rw [Bool.eq_iff_iff]
    simpa using meets_compare_succ s.count s.compare n
  simp only [State.ticks, State.tick, hcount, hflag, Bool.or_assoc]

/-- The ticks the model makes at once are so many ticks one by one (log 4). -/
theorem State.ticks_eq_iterate_tick (s : State) (n : Nat) : s.ticks n = State.tick^[n] s := by
  induction n with
  | zero => exact s.ticks_zero
  | succ n ih => rw [State.ticks_succ, ih, Function.iterate_succ_apply']

/-- `compare` is met within `n` ticks exactly if it is the value of `count` after one of them. -/
theorem meets_compare_iff (count compare : Word) (n : Nat) :
    (compare - count - 1#32).toNat < n ↔ ∃ k, 1 ≤ k ∧ k ≤ n ∧ count + BitVec.ofNat 32 k = compare := by
  induction n with
  | zero => simp
  | succ n ih =>
    rw [meets_compare_succ, ih]
    constructor
    · rintro (⟨k, hk1, hkn, hk⟩ | hlast)
      · exact ⟨k, hk1, by omega, hk⟩
      · exact ⟨n + 1, by omega, le_refl _, by rw [BitVec.ofNat_add, ← BitVec.add_assoc]; exact hlast⟩
    · rintro ⟨k, hk1, hkn, hk⟩
      obtain hle | rfl := Nat.le_succ_iff.1 hkn
      · exact .inl ⟨k, hk1, hle, hk⟩
      · exact .inr (by rw [← hk, Nat.succ_eq_add_one, BitVec.ofNat_add, ← BitVec.add_assoc])

/-- Settles O32: the ticks one by one are the ticks at once, of which the statement says what they do. -/
theorem ticksCountAndFlagTheTimer : Obligations.TicksCountAndFlagTheTimer := by
  intro n s
  rw [← State.ticks_eq_iterate_tick]
  refine ⟨rfl, ?flag, rfl, rfl, rfl, rfl⟩
  case flag => simp only [State.ticks_cause, Bool.or_eq_true, decide_eq_true_iff, meets_compare_iff]

/-! ## The host and the other processors (60_exceptions.md R350; 20_memory.md R92, R95) -/

/-- Settles O33: each action is that one record update. -/
theorem hostActionsChangeOnlyTheirOwn : Obligations.HostActionsChangeOnlyTheirOwn :=
  fun _ _ _ => ⟨rfl, rfl, rfl⟩

theorem State.envAction_otherSC {s : State} {a v : Word} (h : a.toNat % 4 = 0) :
    s.envAction (.otherSC a v) = s.otherSC a v := by
  simp [State.envAction, h]

/-- The link another processor's SC leaves: it is kept only if the SC was to another word than the linked one. -/
theorem State.otherSC_linkValid (s : State) (a v : Word) :
    (s.otherSC a v).linkValid = (s.linkValid && !decide (s.physical a / 4 = s.physical s.linkAddr / 4)) := by
  simp [State.otherSC, State.sameLocation, beq_eq_decide]

/-- Settles O34: the SC is a word store and a test of the location, and `ClearLink` an update of the link alone. -/
theorem otherProcessorsBreakTheLink : Obligations.OtherProcessorsBreakTheLink := by
  intro s a v hbits haligned
  rw [State.envAction_otherSC haligned, State.otherSC_linkValid]
  refine ⟨s.load32_store32 a v hbits, fun hsame => ?same, fun hother => ?other, rfl, fun p => rfl⟩
  case same => simp [hsame]
  case other => simp [hother]

end Sys2Proof.Machine
end

section
/-! PROOFS (42_computational_reg.md, 41_computational_imm.md). The shifts as computed results (R191 to R196), and the
three instructions that take Ov where the exact result does not fit (R171, R197, R199). -/

namespace Sys2Proof.Machine

/-! ## The shifts -/

/-- The arithmetic right shift divides the signed value by the power of two, rounding down (R193). -/
theorem shiftRightArith_eq (v : Word) (amount : BitVec 5) :
    shiftRightArith v amount = BitVec.ofInt 32 (v.toInt / 2 ^ amount.toNat) := by
  have hvalue : (shiftRightArith v amount).toInt = v.toInt / 2 ^ amount.toNat := by
    rw [shiftRightArith, BitVec.toInt_sshiftRight, Int.shiftRight_eq_div_pow]
    norm_cast
  rw [← hvalue, BitVec.ofInt_toInt]

section
variable (s : State) (rd rt rs : Reg) (shamt : BitVec 5)

theorem exec_sll : exec (.sll rd rt shamt) s = s.computed rd (s.readReg rt <<< shamt.toNat) := rfl

theorem exec_srl : exec (.srl rd rt shamt) s = s.computed rd (s.readReg rt >>> shamt.toNat) := rfl

theorem exec_sra : exec (.sra rd rt shamt) s =
    s.computed rd (BitVec.ofInt 32 ((s.readReg rt).toInt / 2 ^ shamt.toNat)) :=
  congrArg (s.computed rd) (shiftRightArith_eq (s.readReg rt) shamt)

/-! The variable shifts are the constant ones by the amount in the register (30_encoding.md R118). -/

theorem exec_sllv : exec (.sllv rd rt rs) s = s.computed rd (s.readReg rt <<< ((s.readReg rs).toNat % 32)) := by
  rw [← toNat_shiftAmount]
  rfl

theorem exec_srlv : exec (.srlv rd rt rs) s = s.computed rd (s.readReg rt >>> ((s.readReg rs).toNat % 32)) := by
  rw [← toNat_shiftAmount]
  rfl

theorem exec_srav : exec (.srav rd rt rs) s =
    s.computed rd (BitVec.ofInt 32 ((s.readReg rt).toInt / 2 ^ ((s.readReg rs).toNat % 32))) := by
  rw [← toNat_shiftAmount]
  exact exec_sra s rd rt (shiftAmount (s.readReg rs))

end

/-- Settles O39: each shift ends by computing its stated result. -/
theorem shiftResults : Obligations.ShiftResults := by
  intro s rd rt rs n
  refine ⟨?sll, ?srl, ?sra, ?sllv, ?srlv, ?srav⟩
  case sll => exact writesReg_of_computed (exec_sll s rd rt n)
  case srl => exact writesReg_of_computed (exec_srl s rd rt n)
  case sra => exact writesReg_of_computed (exec_sra s rd rt n)
  case sllv => exact writesReg_of_computed (exec_sllv s rd rt rs)
  case srlv => exact writesReg_of_computed (exec_srlv s rd rt rs)
  case srav => exact writesReg_of_computed (exec_srav s rd rt rs)

/-! ## Overflow -/

/-- An instruction that raises an exception takes it. -/
theorem traps_of_raise {i : Instr} {s : State} {e : Exc} (hexec : exec i s = s.raise e) : Traps i s e.code :=
  ⟨s.trapEntry e, hexec, trapped_trapEntry s e⟩

/-- An instruction that raises Ov where its overflow test succeeds, and else computes the word of the exact result,
where the test finds the results that do not fit in 32 bits. -/
theorem computes_or_traps_of_overflow {i : Instr} {s : State} {r : Reg} {overflows : Bool} {v : Word} {n : Int}
    (hexec : exec i s = if overflows then s.raise .ov else s.computed r v)
    (htest : overflows = true ↔ n < -2147483648 ∨ 2147483647 < n) (hv : v = BitVec.ofInt 32 n) :
    (-2147483648 ≤ n ∧ n ≤ 2147483647 → WritesReg i s r (BitVec.ofInt 32 n)) ∧
    (n < -2147483648 ∨ 2147483647 < n → Traps i s 12#5) := by
  constructor
  · rintro ⟨hlow, hhigh⟩
    have hfits : ¬ overflows = true := by rw [htest]; omega
    rw [if_neg hfits, hv] at hexec
    exact writesReg_of_computed hexec
  · intro hout
    rw [if_pos (htest.2 hout)] at hexec
    exact traps_of_raise hexec

/-- Settles O40: the sign test of each of the three finds exactly the results that do not fit. -/
theorem addAndSubtractTrapOnOverflow : Obligations.AddAndSubtractTrapOnOverflow := by
  intro s rd rs rt imm n
  refine ⟨?add, ?sub, ?addi⟩
  case add =>
    rintro rfl
    refine computes_or_traps_of_overflow rfl (addOverflows_iff (s.readReg rs) (s.readReg rt)) ?_
    simp [BitVec.ofInt_add]
  case sub =>
    rintro rfl
    refine computes_or_traps_of_overflow rfl (subOverflows_iff (s.readReg rs) (s.readReg rt)) ?_
    exact BitVec.eq_of_toInt_eq (by rw [BitVec.toInt_sub, BitVec.toInt_ofInt])
  case addi =>
    rintro rfl
    rw [← toInt_signExtendImm]
    refine computes_or_traps_of_overflow rfl (addOverflows_iff (s.readReg rs) (signExtendImm imm)) ?_
    simp [BitVec.ofInt_add]

end Sys2Proof.Machine
end

section
/-! PROOFS (43_multiply_divide.md). The exact products, quotients and remainders (R225 to R229). -/

namespace Sys2Proof.Machine

/-! ## Products (R225, R226) -/

/-- The two halves of a product together are the product. -/
theorem upperHalf_append_lowerHalf (p : BitVec 64) : upperHalf p ++ lowerHalf p = p := by
  have hall : p.extractLsb' 32 32 ++ p.extractLsb' 0 32 = p.extractLsb' 0 64 :=
    BitVec.extractLsb'_append_extractLsb'_eq_extractLsb' rfl
  exact hall.trans BitVec.extractLsb'_eq_self

/-- The product of two signed words fits in 64 bits. -/
theorem toInt_productSigned (a b : Word) : (productSigned a b).toInt = a.toInt * b.toInt := by
  have ha := BitVec.le_toInt a
  have ha' := BitVec.toInt_lt (x := a)
  have hb := BitVec.le_toInt b
  have hb' := BitVec.toInt_lt (x := b)
  norm_num at ha ha' hb hb'
  have hbound : |a.toInt * b.toInt| ≤ 2147483648 * 2147483648 := by
    rw [abs_mul]
    exact mul_le_mul (abs_le.2 ⟨by omega, by omega⟩) (abs_le.2 ⟨by omega, by omega⟩) (abs_nonneg _) (by decide)
  obtain ⟨hlow, hhigh⟩ := abs_le.1 hbound
  rw [productSigned, BitVec.toInt_ofInt]
  exact Int.bmod_eq_of_le (by omega) (by omega)

/-- The product of two unsigned words fits in 64 bits. -/
theorem toNat_productUnsigned (a b : Word) : (productUnsigned a b).toNat = a.toNat * b.toNat := by
  have hbound : a.toNat * b.toNat < 2 ^ 32 * 2 ^ 32 := Nat.mul_lt_mul'' a.isLt b.isLt
  rw [productUnsigned, BitVec.toNat_ofNat]
  exact Nat.mod_eq_of_lt (by omega)

section
variable (s : State) (rs rt : Reg)

theorem exec_mult : exec (.mult rs rt) s = .next (s.writeHiLo (upperHalf (productSigned (s.readReg rs) (s.readReg rt)))
    (lowerHalf (productSigned (s.readReg rs) (s.readReg rt)))).advance := rfl

theorem exec_multu : exec (.multu rs rt) s =
    .next (s.writeHiLo (upperHalf (productUnsigned (s.readReg rs) (s.readReg rt)))
      (lowerHalf (productUnsigned (s.readReg rs) (s.readReg rt)))).advance := rfl

end

/-- Settles O42: the halves written to `hi` and `lo` make up the product, which fits in 64 bits. -/
theorem multiplyLeavesTheExactProduct : Obligations.MultiplyLeavesTheExactProduct := by
  intro s rs rt
  refine ⟨?mult, ?multu⟩
  case mult =>
    obtain ⟨t, hexec, hframe, hdraws, hhi, hlo⟩ := writesHiLo_of_exec_eq (exec_mult s rs rt)
    exact ⟨t, hexec, hframe, hdraws, by rw [hhi, hlo, upperHalf_append_lowerHalf, toInt_productSigned]⟩
  case multu =>
    obtain ⟨t, hexec, hframe, hdraws, hhi, hlo⟩ := writesHiLo_of_exec_eq (exec_multu s rs rt)
    exact ⟨t, hexec, hframe, hdraws, by rw [hhi, hlo, upperHalf_append_lowerHalf, toNat_productUnsigned]⟩

/-! ## Quotients and remainders (R227 to R229) -/

theorem divUnstated_iff (n d : Word) :
    divUnstated n d = true ↔ d = 0#32 ∨ (n.toInt = -2147483648 ∧ d.toInt = -1) := by
  simp [divUnstated]

/-- The model's quotient is the library's, which wraps around for -2^31 by -1 alone. -/
theorem toInt_quotientSigned {n d : Word} (hstated : ¬ (n.toInt = -2147483648 ∧ d.toInt = -1)) :
    (quotientSigned n d).toInt = n.toInt.tdiv d.toInt := by
  have hdefined : n ≠ BitVec.intMin 32 ∨ d ≠ -1#32 := by
    by_contra hboth
    rw [not_or, not_not, not_not] at hboth
    obtain ⟨rfl, rfl⟩ := hboth
    exact hstated ⟨by decide, by decide⟩
  rw [quotientSigned, BitVec.toInt_ofInt, ← BitVec.toInt_sdiv, BitVec.toInt_sdiv_of_ne_or_ne n d hdefined]

/-- The model's remainder is the library's, which has the sign of the dividend. -/
theorem toInt_remainderSigned (n d : Word) : (remainderSigned n d).toInt = n.toInt.tmod d.toInt := by
  rw [remainderSigned, Int.mul_comm, ← Int.tmod_def, ← BitVec.toInt_srem, BitVec.ofInt_toInt]

theorem toNat_quotientUnsigned (n d : Word) : (quotientUnsigned n d).toNat = n.toNat / d.toNat := by
  rw [quotientUnsigned, BitVec.toNat_ofNat]
  exact Nat.mod_eq_of_lt (lt_of_le_of_lt (Nat.div_le_self _ _) n.isLt)

theorem toNat_remainderUnsigned (n d : Word) : (remainderUnsigned n d).toNat = n.toNat % d.toNat := by
  rw [remainderUnsigned, BitVec.toNat_ofNat]
  exact Nat.mod_eq_of_lt (lt_of_le_of_lt (Nat.mod_le _ _) n.isLt)

section
variable (s : State) (rs rt : Reg)

theorem exec_div : exec (.div rs rt) s =
    if divUnstated (s.readReg rs) (s.readReg rt) then .next ((s.writeHiLo s.any32' s.any32).drawn 2).advance
    else .next (s.writeHiLo (remainderSigned (s.readReg rs) (s.readReg rt))
      (quotientSigned (s.readReg rs) (s.readReg rt))).advance := rfl

theorem exec_divu : exec (.divu rs rt) s =
    if divuUnstated (s.readReg rt) then .next ((s.writeHiLo s.any32' s.any32).drawn 2).advance
    else .next (s.writeHiLo (remainderUnsigned (s.readReg rs) (s.readReg rt))
      (quotientUnsigned (s.readReg rs) (s.readReg rt))).advance := rfl

end

/-- Settles O43: each divide ends by writing the model's quotient and remainder, of which the identity of division
holds. -/
theorem divideLeavesQuotientAndRemainder : Obligations.DivideLeavesQuotientAndRemainder := by
  intro s rs rt hd
  refine ⟨fun hstated => ?div, ?divu⟩
  case div =>
    have hexec := exec_div s rs rt
    rw [if_neg (by rw [divUnstated_iff]; exact not_or.2 ⟨hd, hstated⟩)] at hexec
    obtain ⟨t, hexec, hframe, hdraws, hhi, hlo⟩ := writesHiLo_of_exec_eq hexec
    have hquotient : t.lo.toInt = _ := hlo ▸ toInt_quotientSigned hstated
    have hremainder : t.hi.toInt = _ := hhi ▸ toInt_remainderSigned (s.readReg rs) (s.readReg rt)
    refine ⟨t, hexec, hframe, hdraws, hquotient, hremainder, ?_⟩
    rw [hquotient, hremainder, Int.tdiv_mul_add_tmod]
  case divu =>
    have hexec := exec_divu s rs rt
    rw [if_neg (by simpa [divuUnstated] using hd)] at hexec
    obtain ⟨t, hexec, hframe, hdraws, hhi, hlo⟩ := writesHiLo_of_exec_eq hexec
    exact ⟨t, hexec, hframe, hdraws, by rw [hlo, toNat_quotientUnsigned], by rw [hhi, toNat_remainderUnsigned]⟩

/-- Drawing free values besides leaves all but `hi`, `lo` and pc as it was. -/
theorem onlyHiLo_writeHiLo_drawn_advance (s : State) (h l : Word) (n : Nat) :
    OnlyHiLo s ((s.writeHiLo h l).drawn n).advance := by
  simp [OnlyHiLo, SameRegs, SameCp0, SameLink, SameMem, SameModel]

/-- Settles O44: where no result is stated the divides write two free values. -/
theorem unstatedDividesComplete : Obligations.UnstatedDividesComplete := by
  intro s rs rt
  refine ⟨fun hunstated => ?div, fun hzero => ?divu⟩
  case div =>
    exact ⟨_, (exec_div s rs rt).trans (if_pos ((divUnstated_iff _ _).2 hunstated)),
      onlyHiLo_writeHiLo_drawn_advance s _ _ 2⟩
  case divu =>
    exact ⟨_, (exec_divu s rs rt).trans (if_pos (by simp [divuUnstated, hzero])),
      onlyHiLo_writeHiLo_drawn_advance s _ _ 2⟩

end Sys2Proof.Machine
end

section
/-! PROOFS (40_loads_stores.md R156, R160; 20_memory.md R92, R93). LL and SC as checked accesses, and what the link does
between them. -/

namespace Sys2Proof.Machine

section
variable (s : State) (rt rs : Reg) (imm : Half)

theorem exec_ll : exec (.ll rt rs imm) s = s.checkLoad (s.address rs imm) 4
    { s.loaded rt (s.load32 (s.address rs imm)) with linkValid := true, linkAddr := s.address rs imm } := rfl

/-- What an SC that passes the check leaves, but for its draw, the free link and pc: the word stored and 1, or 0. -/
def State.conditionallyStored (s : State) (a : Word) (rt : Reg) : State :=
  if s.linkValid then (s.store32 a (s.readReg rt)).writeReg rt 1#32 else s.writeReg rt 0#32

theorem exec_sc : exec (.sc rt rs imm) s = s.checkStore (s.address rs imm) 4
    { ((s.conditionallyStored (s.address rs imm) rt).drawn 1).advance with linkValid := s.anyBit } := rfl

end

/-! ## What an SC does (R160) -/

theorem State.conditionallyStored_of_link {s : State} (h : s.linkValid = true) (a : Word) (rt : Reg) :
    s.conditionallyStored a rt = (s.store32 a (s.readReg rt)).writeReg rt 1#32 := by
  simp [State.conditionallyStored, h]

theorem State.conditionallyStored_of_no_link {s : State} (h : s.linkValid = false) (a : Word) (rt : Reg) :
    s.conditionallyStored a rt = s.writeReg rt 0#32 := by
  simp [State.conditionallyStored, h]

/-- An SC changes its register and memory, whether it stores or not. -/
theorem State.conditionallyStored_eq (s : State) (a : Word) (rt : Reg) :
    s.conditionallyStored a rt =
      { s with regs := (s.conditionallyStored a rt).regs, mem := (s.conditionallyStored a rt).mem } := by
  unfold State.conditionallyStored
  split <;> rfl

theorem sameSpecial_conditionallyStored (s : State) (a : Word) (rt : Reg) :
    SameSpecial s (s.conditionallyStored a rt) ∧ (s.conditionallyStored a rt).pc = s.pc ∧
      (s.conditionallyStored a rt).c2 = s.c2 := by
  rw [State.conditionallyStored_eq]
  simp [SameSpecial, SameHiLo, SameCp0, SameLink, SameModel]

/-- An SC with a valid link stores the word and writes 1. -/
theorem State.conditionallyStored_stores {s : State} (h : s.linkValid = true) (a : Word) (rt : Reg) :
    OnlyReg s (s.conditionallyStored a rt) rt 1#32 ∧ SameMemOutside s (s.conditionallyStored a rt) a 4 ∧
      (2 ≤ s.params.paBits → (s.conditionallyStored a rt).load32 a = s.readReg rt) := by
  rw [State.conditionallyStored_of_link h]
  refine ⟨fun q => ?_, sameMemOutside_store32 s a (s.readReg rt), s.load32_store32 a (s.readReg rt)⟩
  simp

/-- An SC without one stores nothing and writes 0. -/
theorem State.conditionallyStored_fails {s : State} (h : s.linkValid = false) (a : Word) (rt : Reg) :
    OnlyReg s (s.conditionallyStored a rt) rt 0#32 ∧ SameMem s (s.conditionallyStored a rt) := by
  rw [State.conditionallyStored_of_no_link h]
  refine ⟨fun q => ?_, fun p => ?_⟩
  · simp
  · simp

/-- Settles O49: LL is a checked load that also sets the link. -/
theorem loadLinkedSetsTheLink : Obligations.LoadLinkedSetsTheLink := by
  rintro s rt rs imm a rfl
  have hexec := exec_ll s rt rs imm
  refine ⟨fun hok => ?permitted, fun hbad => trapsAt_of_checkLoad hexec hbad⟩
  case permitted =>
    rw [State.checkLoad_of_ok _ ((accessOk_iff s _ 4).1 hok)] at hexec
    refine ⟨_, hexec, rfl, ?reg, rfl, rfl, ⟨rfl, rfl⟩, ⟨rfl, rfl, rfl, rfl, rfl, rfl, rfl, rfl⟩, fun p => rfl,
      ⟨rfl, rfl, rfl, rfl⟩, rfl⟩
    case reg => exact fun q => s.readReg_writeReg rt q _

/-- Settles O50: SC is a checked store whose effect the link decides. -/
theorem storeConditionalTestsTheLink : Obligations.StoreConditionalTestsTheLink := by
  rintro s rt rs imm a rfl
  have hexec := exec_sc s rt rs imm
  refine ⟨fun hok => ?permitted, fun hbad => trapsAt_of_checkStore hexec hbad⟩
  case permitted =>
    rw [State.checkStore_of_ok _ ((accessOk_iff s _ 4).1 hok)] at hexec
    obtain ⟨⟨hhilo, hcp0, ⟨-, hlinkAddr⟩, hmodel⟩, hpc, hc2⟩ :=
      sameSpecial_conditionallyStored s (s.address rs imm) rt
    exact ⟨_, hexec, congrArg (· + 4#32) hpc, hhilo, hcp0, hlinkAddr, hmodel, hc2,
      fun hlink => State.conditionallyStored_stores hlink _ rt,
      fun hlink => State.conditionallyStored_fails hlink _ rt⟩

/-! ## The link between LL and SC (R92) -/

/-- An LL that completes at a permitted address has set the link. -/
theorem linkValid_of_exec_ll {s t : State} {rt rs : Reg} {imm : Half} (hok : AccessOk s (s.address rs imm) 4)
    (hexec : exec (.ll rt rs imm) s = .next t) : t.linkValid = true ∧ t.params = s.params := by
  rw [exec_ll, State.checkLoad_of_ok _ ((accessOk_iff s _ 4).1 hok)] at hexec
  obtain rfl := Host.Outcome.next.inj hexec
  exact ⟨rfl, rfl⟩

/-- Trap entry enters kernel mode, where every aligned access is permitted. -/
theorem accessOk_trapEntry {s : State} {a : Word} {n : Nat} (e : Exc) (haligned : a.toNat % n = 0) :
    AccessOk (s.trapEntry e) a n := ⟨haligned, .inl rfl⟩

/-- Settles O51: the SC after the LL finds the link valid, and the SC after a trap finds it cleared. -/
theorem linkSurvivesUntilTrap : Obligations.LinkSurvivesUntilTrap := by
  intro s t rt rs rt' rs' imm imm' e hok hll
  obtain ⟨hlink, hparams⟩ := linkValid_of_exec_ll hok hll
  refine ⟨fun hok' => ?succeeds, fun haligned => ?fails⟩
  case succeeds =>
    obtain ⟨hpermitted, -⟩ := storeConditionalTestsTheLink t rt' rs' imm' _ rfl
    obtain ⟨u, hu, -, -, -, -, -, -, hstores, -⟩ := hpermitted hok'
    obtain ⟨hreg, -, hword⟩ := hstores hlink
    exact ⟨u, hu, hreg, hparams ▸ hword⟩
  case fails =>
    obtain ⟨hpermitted, -⟩ := storeConditionalTestsTheLink (t.trapEntry e) rt' rs' imm' _ rfl
    obtain ⟨u, hu, -, -, -, -, -, -, -, hfails⟩ := hpermitted (accessOk_trapEntry e haligned)
    exact ⟨u, hu, hfails rfl⟩

end Sys2Proof.Machine
end

section
/-! PROOFS (45_cop0.md, 10_state.md R50, R51). What MFC0 reads of the registers with fields, what MTC0 writes, ERET, and
the refusal of all three in user mode. -/

namespace Sys2Proof.Machine

/-! ## The reads of `status` and `cause` (10_state.md R37, R42) -/

/-- The reserved fields of `status` read as zero (R38, R40). -/
theorem statusWord_reserved (st : Status) (im50 : BitVec 6) : statusWord st im50 &&& 0xefff00c0#32 = 0#32 := by
  apply BitVec.eq_of_getLsbD_eq
  intro k hk
  rw [BitVec.getLsbD_and, statusWord_getLsbD]
  interval_cases k <;> simp

/-- The reserved fields of `cause` read as zero (R44). -/
theorem causeWord_reserved (c : Cause) (ip50 : BitVec 6) : causeWord c ip50 &&& 0xffff0083#32 = 0#32 := by
  apply BitVec.eq_of_getLsbD_eq
  intro k hk
  rw [BitVec.getLsbD_and, causeWord_getLsbD]
  interval_cases k <;> simp

theorem causeWord_excCode (c : Cause) (ip50 : BitVec 6) : (causeWord c ip50).extractLsb' 2 5 = c.excCode := by
  apply BitVec.eq_of_getLsbD_eq
  intro k hk
  rw [BitVec.getLsbD_extractLsb', causeWord_getLsbD]
  interval_cases k <;> simp

/-- An IM[5:0] bit reads as zero where a zero was last written (R39). -/
theorem statusWord_im50_of_zero (st : Status) (free : BitVec 6) {k : Nat} (hk : k < 6)
    (hzero : st.im50.getLsbD k = false) : (statusWord st (st.im50 &&& free)).getLsbD (8 + k) = false := by
  rw [statusWord_getLsbD]
  interval_cases k <;> simp_all

/-- A word written to `status` reads back with its implemented bits, where IM[5:0] reads as zero. -/
theorem statusWord_statusOfWord (v : Word) : statusWord (statusOfWord v) 0#6 = v &&& 0x1000c03f#32 := by
  apply BitVec.eq_of_getLsbD_eq
  intro k hk
  rw [BitVec.getLsbD_and, statusWord_getLsbD]
  interval_cases k <;> simp [statusOfWord]

/-- An eight-bit register reads with 24 zeros above (R32, R33). -/
theorem zeroExtend_byte (b : Byte) : b.zeroExtend 32 = 0#24 ++ b := by
  apply BitVec.eq_of_toNat_eq
  have hbyte := b.isLt
  have hvalue : (0#24 ++ b).toNat = b.toNat := by simp [BitVec.toNat_append (0#24) b]
  rw [BitVec.zeroExtend_eq_setWidth, BitVec.toNat_setWidth, Nat.mod_eq_of_lt (by omega)]
  exact hvalue.symm

/-! ## MFC0 (R260) -/

theorem exec_mfc0_of_usable {s : State} (h : Cop0Usable s) (rt rd : Reg) :
    exec (.mfc0 rt rd) s = .next ((s.writeReg rt (s.cp0Read rd)).drawn 1).advance := by
  simp [exec, execMfc0, (cop0Usable_iff s).1 h]

/-- Settles O52: MFC0 writes what the read of the register gives, which for the two registers with fields is their word,
bit by bit. -/
theorem moveFromCp0Reads : Obligations.MoveFromCp0Reads := by
  intro s rt rd husable
  refine ⟨_, s.cp0Read rd, exec_mfc0_of_usable husable rt rd, rfl, fun q => s.readReg_writeReg rt q _, ?special,
    fun p => rfl, rfl, ?_, ?_, ?_, ?_, ?fromhost, ?tohost, ?status, ?cause⟩
  case special => simp [SameSpecial, SameHiLo, SameCp0, SameLink, SameModel]
  case fromhost =>
    rintro rfl
    exact zeroExtend_byte s.fromhost
  case tohost =>
    rintro rfl
    exact zeroExtend_byte s.tohost
  case status =>
    rintro rfl
    refine ⟨?_, ?_, ?_, ?_, ?_, ?_, ?_, ?_, ?_, statusWord_reserved _ _, fun k hk => statusWord_im50_of_zero _ _ hk⟩
    all_goals exact statusWord_getLsbD _ _ _
  case cause =>
    rintro rfl
    exact ⟨causeWord_getLsbD _ _ 15, causeWord_getLsbD _ _ 14, causeWord_excCode _ _, causeWord_reserved _ _⟩
  all_goals
    rintro rfl
    rfl

/-! ## MTC0 (R261) -/

/-- What a write does to each of the registers it can reach but `status` (R51). -/
theorem State.cp0Write_fields (s : State) (n : Reg) (v : Word) :
    (s.cp0Write n v).count = (if n = 9#5 then v else s.count) ∧
    (s.cp0Write n v).compare = (if n = 11#5 then v else s.compare) ∧
    (s.cp0Write n v).cause.ip7 = (if n = 11#5 then false else s.cause.ip7) ∧
    (s.cp0Write n v).cause.ip6 = s.cause.ip6 ∧ (s.cp0Write n v).cause.excCode = s.cause.excCode ∧
    (s.cp0Write n v).tohost = (if n = 21#5 then v.extractLsb' 0 8 else s.tohost) := by
  unfold State.cp0Write
  split <;> simp_all

/-- Settles O53: MTC0 is the write of the register and pc + 4, and the write reaches its own register alone. -/
theorem moveToCp0Writes : Obligations.MoveToCp0Writes := by
  rintro s rt rd v rfl husable
  obtain ⟨hregs, hhi, hlo, hpc, hepc, hbadvaddr, hfromhost, hlinkValid, hlinkAddr, hmem, hparams, hc2, hinputs,
    hclockWait, -, hresets⟩ := s.cp0Write_frame rd (s.readReg rt)
  obtain ⟨hcount, hcompare, hip7, hip6, hexcCode, htohost⟩ := s.cp0Write_fields rd (s.readReg rt)
  refine ⟨_, exec_mtc0_of_usable husable rt rd, congrArg (· + 4#32) hpc, State.readReg_congr hregs, ⟨hhi, hlo⟩,
    ⟨hlinkValid, hlinkAddr⟩, ?mem, ⟨hparams, hinputs, hclockWait, hresets⟩, hc2, hepc, hbadvaddr, hfromhost, hip6,
    hexcCode, hcount, hcompare, hip7, htohost, State.cp0Write_status_of_ne, ?status⟩
  case mem =>
    intro p
    simp [State.load8, State.physical, hmem, hparams, hresets]
  case status =>
    rintro rfl
    exact ⟨rfl, rfl, rfl, rfl, rfl, rfl, rfl, rfl, rfl, rfl⟩

/-- Settles O54: the write sets the fields from the word, and the read lays them out again. -/
theorem statusReadsBackWhatWasWritten : Obligations.StatusReadsBackWhatWasWritten := by
  intro s t u rt rt' husable hmask hwrite husable' hread hrt'
  rw [exec_mtc0_of_usable husable] at hwrite
  rw [exec_mfc0_of_usable husable'] at hread
  obtain rfl := Host.Outcome.next.inj hwrite
  obtain rfl := Host.Outcome.next.inj hread
  generalize hs' : (s.cp0Write 12#5 (s.readReg rt)).advance = s'
  have hstatus : s'.status = statusOfWord (s.readReg rt) := by rw [← hs']; rfl
  have hword : s'.cp0Read 12#5 = s.readReg rt &&& 0x1000c03f#32 := by
    rw [← statusWord_statusOfWord, ← hstatus]
    show statusWord s'.status (s'.status.im50 &&& s'.anySix) = _
    rw [hstatus, show (statusOfWord (s.readReg rt)).im50 = 0#6 from hmask, BitVec.zero_and]
  simp [hword, hrt']

/-! ## ERET and the refusal (R262, R263) -/

/-- Settles O55: with CP0 not usable each of the three raises RI at once. -/
theorem cop0RefusedInUserMode : Obligations.Cop0RefusedInUserMode := by
  intro s rt rd huser hcu0
  have hrefused : s.cop0Refused = true := s.cop0Refused_iff.2 ⟨huser, hcu0⟩
  exact ⟨traps_of_raise (e := .ri) (if_pos hrefused), traps_of_raise (e := .ri) (if_pos hrefused),
    traps_of_raise (e := .ri) (if_pos hrefused)⟩

/-- Settles O56: where CP0 is usable ERET is the return from the exception. -/
theorem eretReturns : Obligations.EretReturns := by
  intro s husable
  refine ⟨_, exec_eret_of_usable husable, ?_⟩
  simp [Status.pop, SameRegs, SameHiLo, SameLink, SameMem, SameModel]

/-- Settles O36: trap entry enters kernel mode, where CP0 is usable, and popping what was pushed gives back the mode and
the enable, current and previous. -/
theorem trapThenEretResumes : Obligations.TrapThenEretResumes := by
  intro s e
  refine ⟨_, exec_eret_of_usable (s := s.trapEntry e) (.inl rfl), ?_⟩
  simp [Status.push, Status.pop, SameRegs, SameHiLo, SameMem]

end Sys2Proof.Machine
end

section
/-! PROOFS (46_cop2.md R280, 47_special.md). The Coprocessor 2 instructions without the coprocessor, SYSCALL, BREAK and
SYNC. -/

namespace Sys2Proof.Machine

/-- Settles O57: all seven begin with the check for the coprocessor. -/
theorem absentCop2TakesRI : Obligations.AbsentCop2TakesRI := by
  intro s rt rd imm copfunc habsent
  have hrefused : s.cop2Refused = true := s.cop2Refused_iff.2 (.inl habsent)
  exact ⟨traps_of_checkCop2 (exec_mfc2 s rt rd) hrefused, traps_of_checkCop2 (exec_mtc2 s rt rd) hrefused,
    traps_of_checkCop2 (exec_cfc2 s rt rd) hrefused, traps_of_checkCop2 (exec_ctc2 s rt rd) hrefused,
    traps_of_checkCop2 (exec_lwc2 s rt rd imm) hrefused, traps_of_checkCop2 (exec_swc2 s rt rd imm) hrefused,
    traps_of_checkCop2 (exec_cop2 s copfunc) hrefused⟩

/-- Settles O59: neither looks at its code. -/
theorem syscallAndBreakTrap : Obligations.SyscallAndBreakTrap :=
  fun _ _ => ⟨traps_of_raise (e := .sys) rfl, traps_of_raise (e := .bp) rfl, rfl, rfl⟩

/-- Settles O60: advancing pc assigns it. -/
theorem syncOnlyAdvances : Obligations.SyncOnlyAdvances := fun _ => setsPc_of_jumpTo rfl

end Sys2Proof.Machine
end

section
/-! PROOFS (60_exceptions.md R301, R302). How an instruction ends, said once for all 65: it takes an exception, or it
completes in one of a few shapes. What instructions change and leave unchanged is then a case of it. -/

namespace Sys2Proof.Machine

/-! ## The shapes -/

/-- The instructions that write `hi` and `lo` together (43_multiply_divide.md R225 to R228). -/
def IsMultiplyOrDivide (i : Instr) : Prop :=
  ∃ rs rt, i = .mult rs rt ∨ i = .multu rs rt ∨ i = .div rs rt ∨ i = .divu rs rt

/-- The states an instruction may complete in: which operations it performs, on which operands of its own, whatever the
values are. -/
inductive Completes (s : State) : Instr → State → Prop
  | jumps {i : Instr} (target : Word) : Completes s i (s.jumpTo target)
  | writesReg {i : Instr} {r : Reg} (v target : Word) (hdest : destination i = some r) :
      Completes s i ((s.writeReg r v).jumpTo target)
  | setsLink {rt rs : Reg} {imm : Half} (v a : Word) :
      Completes s (.ll rt rs imm) { (s.writeReg rt v).advance with linkValid := true, linkAddr := a }
  | stores {i : Instr} {rs : Reg} {imm : Half} (bytes : List Byte)
      (hstore : storeOperand i = some (rs, imm, bytes.length)) (hok : AccessOk s (s.address rs imm) bytes.length) :
      Completes s i (s.storeBytes (s.address rs imm) bytes).advance
  | storesByLink {rt rs : Reg} {imm : Half} (hok : AccessOk s (s.address rs imm) 4) :
      Completes s (.sc rt rs imm)
        { ((s.conditionallyStored (s.address rs imm) rt).drawn 1).advance with linkValid := s.anyBit }
  | movesHi {rs : Reg} (v : Word) : Completes s (.mthi rs) (s.writeHiLo v s.lo).advance
  | movesLo {rs : Reg} (v : Word) : Completes s (.mtlo rs) (s.writeHiLo s.hi v).advance
  | writesHiLo {i : Instr} (h l : Word) (hfamily : IsMultiplyOrDivide i) : Completes s i (s.writeHiLo h l).advance
  | drawsHiLo {i : Instr} (h l : Word) (hfamily : IsMultiplyOrDivide i) :
      Completes s i ((s.writeHiLo h l).drawn 2).advance
  | readsCp0 {rt rd : Reg} (v : Word) : Completes s (.mfc0 rt rd) ((s.writeReg rt v).drawn 1).advance
  | writesCp0 {rt rd : Reg} (husable : Cop0Usable s) :
      Completes s (.mtc0 rt rd) (s.cp0Write rd (s.readReg rt)).advance
  | returns (husable : Cop0Usable s) : Completes s .eret s.returnFromException
  | readsCop2 {i : Instr} {r : Reg} (v : Word) (c : Nat) (hdest : destination i = some r) :
      Completes s i ((s.writeReg r v).writeC2 c).advance
  | writesCop2 {i : Instr} (c : Nat) : Completes s i (s.writeC2 c).advance
  | storesCop2 {i : Instr} {rs : Reg} {imm : Half} (bytes : List Byte) (c : Nat)
      (hstore : storeOperand i = some (rs, imm, bytes.length)) (hok : AccessOk s (s.address rs imm) bytes.length) :
      Completes s i ((s.storeBytes (s.address rs imm) bytes).writeC2 c).advance
  | operatesCop2 {copfunc : BitVec 25} (e : Cop2Effect) (husable : Cop2Usable s) :
      Completes s (.cop2 copfunc) (s.applyCop2 e).advance

/-- The instruction may raise an exception: SMIPSv3 alone has it, or a check that the smaller variants ask for fails. -/
def MayRaise (s : State) (i : Instr) : Prop := i.row.variant = some .v3 ∨ s.withinSmallVariant i = false

/-- Every answer of an instruction is a next state, by trap entry or completed. -/
inductive Ends (i : Instr) (s : State) : Result → Prop
  | traps (e : Exc) (hraise : MayRaise s i) : Ends i s (.next (s.trapEntry e))
  | completes {t : State} (h : Completes s i t) : Ends i s (.next t)

/-! ## The ways an instruction ends -/

section
variable {i : Instr} {s : State}

theorem ends_ite {c : Bool} {q r : Result} (hq : c = true → Ends i s q) (hr : c = false → Ends i s r) :
    Ends i s (if c then q else r) := by
  cases c
  · exact hr rfl
  · exact hq rfl

theorem ends_check {c : Bool} {e : Exc} {r : Result} (hraise : c = true → MayRaise s i) (hr : c = false → Ends i s r) :
    Ends i s (if c then s.raise e else r) :=
  ends_ite (fun hc => .traps e (hraise hc)) hr

theorem ends_checkLoad {a : Word} {n : Nat} {done : State} (hraise : s.addressError a n = true → MayRaise s i)
    (hdone : AccessOk s a n → Completes s i done) : Ends i s (s.checkLoad a n done) :=
  ends_check hraise fun hok => .completes (hdone ((accessOk_iff s a n).2 hok))

theorem ends_checkStore {a : Word} {n : Nat} {done : State} (hraise : s.addressError a n = true → MayRaise s i)
    (hdone : AccessOk s a n → Completes s i done) : Ends i s (s.checkStore a n done) :=
  ends_check hraise fun hok => .completes (hdone ((accessOk_iff s a n).2 hok))

theorem ends_checkCop2 {rest : Result} (hraise : s.cop2Refused = true → MayRaise s i)
    (hrest : Cop2Usable s → Ends i s rest) : Ends i s (s.checkCop2 rest) :=
  ends_check hraise fun hok => hrest ((cop2Usable_iff s).2 hok)

/-- An instruction that the smaller variants lack may raise what it will. -/
theorem mayRaise_of_v3 {c : Prop} (h : i.row.variant = some .v3) : c → MayRaise s i := fun _ => .inl h

end

/-- Each instruction ends in its shape. What it raises is SMIPSv3's alone, or fails a check that the smaller variants
make beforehand. -/
theorem exec_ends (i : Instr) (s : State) : Ends i s (exec i s) := by
  cases i with
  | lb | lh | lbu | lhu => exact ends_checkLoad (mayRaise_of_v3 rfl) fun _ => .writesReg _ _ rfl
  | ll => exact ends_checkLoad (mayRaise_of_v3 rfl) fun _ => .setsLink _ _
  | lw => exact ends_checkLoad (fun h => .inr (by simp [State.withinSmallVariant, h])) fun _ => .writesReg _ _ rfl
  | sb rt rs imm =>
    rw [exec_sb]
    exact ends_checkStore (mayRaise_of_v3 rfl) fun hok => .stores _ rfl hok
  | sh rt rs imm =>
    rw [exec_sh]
    exact ends_checkStore (mayRaise_of_v3 rfl) fun hok => .stores _ rfl hok
  | sw rt rs imm =>
    rw [exec_sw]
    exact ends_checkStore (fun h => .inr (by simp [State.withinSmallVariant, h])) fun hok => .stores _ rfl hok
  | sc rt rs imm =>
    rw [exec_sc]
    exact ends_checkStore (mayRaise_of_v3 rfl) fun hok => .storesByLink hok
  | addi | add | sub => exact ends_check (mayRaise_of_v3 rfl) fun _ => .completes (.writesReg _ _ rfl)
  | addiu | slti | sltiu | andi | ori | xori | lui => exact .completes (.writesReg _ _ rfl)
  | sll | srl | sra | sllv | srlv | srav => exact .completes (.writesReg _ _ rfl)
  | addu | subu | and | or | xor | nor | slt | sltu => exact .completes (.writesReg _ _ rfl)
  | mfhi | mflo => exact .completes (.writesReg _ _ rfl)
  | mthi => exact .completes (.movesHi _)
  | mtlo => exact .completes (.movesLo _)
  | mult rs rt => exact .completes (.writesHiLo _ _ ⟨rs, rt, .inl rfl⟩)
  | multu rs rt => exact .completes (.writesHiLo _ _ ⟨rs, rt, .inr (.inl rfl)⟩)
  | div rs rt =>
    have hfamily : IsMultiplyOrDivide (.div rs rt) := ⟨rs, rt, .inr (.inr (.inl rfl))⟩
    exact ends_ite (fun _ => .completes (.drawsHiLo _ _ hfamily)) fun _ => .completes (.writesHiLo _ _ hfamily)
  | divu rs rt =>
    have hfamily : IsMultiplyOrDivide (.divu rs rt) := ⟨rs, rt, .inr (.inr (.inr rfl))⟩
    exact ends_ite (fun _ => .completes (.drawsHiLo _ _ hfamily)) fun _ => .completes (.writesHiLo _ _ hfamily)
  | j | jr => exact .completes (.jumps _)
  | jal | jalr => exact .completes (.writesReg _ _ rfl)
  | beq | bne | blez | bgtz | bltz | bgez =>
    show Ends _ s (s.branch _ _)
    rw [State.branch_eq]
    exact .completes (.jumps _)
  | mfc0 =>
    exact ends_check (fun h => .inr (by simp [State.withinSmallVariant, h])) fun _ => .completes (.readsCp0 _)
  | mtc0 =>
    exact ends_check (fun h => .inr (by simp [State.withinSmallVariant, h])) fun h =>
      .completes (.writesCp0 ((cop0Usable_iff s).2 h))
  | eret => exact ends_check (mayRaise_of_v3 rfl) fun h => .completes (.returns ((cop0Usable_iff s).2 h))
  | mfc2 | cfc2 =>
    exact ends_checkCop2 (fun h => .inr (by simp [State.withinSmallVariant, h])) fun _ =>
      .completes (.readsCop2 _ _ rfl)
  | mtc2 | ctc2 =>
    exact ends_checkCop2 (fun h => .inr (by simp [State.withinSmallVariant, h])) fun _ => .completes (.writesCop2 _)
  | lwc2 =>
    exact ends_checkCop2 (fun h => .inr (by simp [State.withinSmallVariant, h])) fun _ =>
      ends_checkLoad (fun h => .inr (by simp [State.withinSmallVariant, h])) fun _ => .writesCop2 _
  | swc2 rt rs imm =>
    rw [exec_swc2, State.store32_eq_storeBytes]
    exact ends_checkCop2 (fun h => .inr (by simp [State.withinSmallVariant, h])) fun _ =>
      ends_checkStore (fun h => .inr (by simp [State.withinSmallVariant, h])) fun hok => .storesCop2 _ _ rfl hok
  | cop2 copfunc =>
    rw [exec_cop2]
    exact ends_checkCop2 (fun h => .inr (by simp [State.withinSmallVariant, h])) fun husable =>
      .completes (.operatesCop2 _ husable)
  | syscall | brk => exact .traps _ (.inl rfl)
  | sync => exact .completes (.jumps _)

/-- An instruction that answers a next state took an exception it may raise, or completed. -/
theorem exec_next {i : Instr} {s t : State} (h : exec i s = .next t) :
    (MayRaise s i ∧ ∃ e, t = s.trapEntry e) ∨ Completes s i t := by
  have hends := exec_ends i s
  rw [h] at hends
  cases hends with
  | traps e hraise => exact .inl ⟨hraise, e, rfl⟩
  | completes hdone => exact .inr hdone

/-- No instruction stops the machine. -/
theorem exec_exists_next (i : Instr) (s : State) : ∃ t, exec i s = .next t := by
  have hends := exec_ends i s
  generalize exec i s = r at hends
  cases hends with
  | traps e => exact ⟨s.trapEntry e, rfl⟩
  | completes => exact ⟨_, rfl⟩

end Sys2Proof.Machine
end

section
/-! PROOFS (10_state.md, 20_memory.md). What an instruction that completes changes, by the shapes it may complete in. -/

namespace Sys2Proof.Machine

/-! ## Stores as changes of memory alone -/

theorem State.load8_of_mem_eq {s t : State} (hmem : t.mem = s.mem) (hparams : t.params = s.params)
    (hresets : t.resets = s.resets) (a : Word) : t.load8 a = s.load8 a := by
  simp [State.load8, State.physical, hmem, hparams, hresets]

/-- A byte that an SC changes is one of the four at its address. -/
theorem State.conditionallyStored_load8 (s : State) (a : Word) (rt : Reg) :
    SameMemOutside s (s.conditionallyStored a rt) a 4 := by
  unfold State.conditionallyStored
  split
  · exact sameMemOutside_store32 s a (s.readReg rt)
  · exact fun p _ => rfl

theorem State.conditionallyStored_readReg (s : State) (a : Word) (rt q : Reg) (hq : q ≠ rt) :
    (s.conditionallyStored a rt).readReg q = s.readReg q := by
  unfold State.conditionallyStored
  split <;> simp [hq]

namespace Completes

variable {i : Instr} {s t : State}

/-! ## General registers (10_state.md R22) -/

theorem readReg (h : Completes s i t) (hcop2 : ∀ f, i ≠ .cop2 f) {q : Reg} (hq : destination i ≠ some q) :
    t.readReg q = s.readReg q := by
  cases h with
  | jumps | movesHi | movesLo | writesHiLo | drawsHiLo | returns | writesCop2 => rfl
  | writesReg v target hdest | readsCop2 v c hdest =>
    have hne : q ≠ _ := fun h => hq (h ▸ hdest)
    exact (State.readReg_writeReg s _ q v).trans (by simp [hne])
  | @setsLink rt _ _ v a | @readsCp0 rt _ v =>
    have hne : q ≠ rt := fun h => hq (h ▸ rfl)
    exact (State.readReg_writeReg s rt q v).trans (by simp [hne])
  | stores | storesCop2 =>
    rw [State.storeBytes_eq_with_mem]
    rfl
  | storesByLink =>
    exact State.conditionallyStored_readReg s _ _ q fun h => hq (h ▸ rfl)
  | @writesCp0 rt rd =>
    obtain ⟨hregs, -⟩ := s.cp0Write_frame rd (s.readReg rt)
    exact State.readReg_congr hregs q
  | operatesCop2 => exact absurd rfl (hcop2 _)

/-! ## Memory (20_memory.md R83) -/

/-- A byte that reads otherwise afterwards is one of those of a permitted store. -/
theorem load8 (h : Completes s i t) (hcop2 : ∀ f, i ≠ .cop2 f) {a : Word} (hne : t.load8 a ≠ s.load8 a) :
    ∃ rs imm n k, storeOperand i = some (rs, imm, n) ∧ AccessOk s (s.address rs imm) n ∧ k < n ∧
      s.physical a = s.physical (s.address rs imm + BitVec.ofNat 32 k) := by
  have outside {u : State} {b : Word} {n : Nat} (hframe : SameMemOutside s u b n) (hu : u.load8 a ≠ s.load8 a) :
      ∃ k, k < n ∧ s.physical a = s.physical (b + BitVec.ofNat 32 k) := by
    by_contra hnone
    exact hu (hframe a fun k hk heq => hnone ⟨k, hk, heq⟩)
  cases h with
  | jumps | writesReg | setsLink | movesHi | movesLo | writesHiLo | drawsHiLo | readsCp0 | returns | readsCop2
  | writesCop2 => exact absurd rfl hne
  | @stores _ rs imm bytes hstore hok | @storesCop2 _ rs imm bytes _ hstore hok =>
    obtain ⟨k, hk, heq⟩ := outside (fun p => s.load8_storeBytes_of_ne _ p bytes) hne
    exact ⟨rs, imm, bytes.length, k, hstore, hok, hk, heq⟩
  | @storesByLink rt rs imm hok =>
    obtain ⟨k, hk, heq⟩ := outside (s.conditionallyStored_load8 _ rt) hne
    exact ⟨rs, imm, 4, k, rfl, hok, hk, heq⟩
  | @writesCp0 rt rd =>
    obtain ⟨-, -, -, -, -, -, -, -, -, hmem, hparams, -, -, -, -, hresets⟩ := s.cp0Write_frame rd (s.readReg rt)
    exact absurd (State.load8_of_mem_eq hmem hparams hresets a) hne
  | operatesCop2 => exact absurd rfl (hcop2 _)

/-! ## `hi` and `lo` (10_state.md R24) -/

theorem hiLo (h : Completes s i t) :
    SameHiLo s t ∨ (∃ rs, i = .mthi rs ∧ t.lo = s.lo) ∨ (∃ rs, i = .mtlo rs ∧ t.hi = s.hi) ∨ IsMultiplyOrDivide i := by
  cases h with
  | jumps | writesReg | setsLink | readsCp0 | returns | readsCop2 | writesCop2 => exact .inl ⟨rfl, rfl⟩
  | movesHi => exact .inr (.inl ⟨_, rfl, rfl⟩)
  | movesLo => exact .inr (.inr (.inl ⟨_, rfl, rfl⟩))
  | writesHiLo _ _ hfamily | drawsHiLo _ _ hfamily => exact .inr (.inr (.inr hfamily))
  | stores | storesCop2 =>
    rw [State.storeBytes_eq_with_mem]
    exact .inl ⟨rfl, rfl⟩
  | storesByLink =>
    rw [State.conditionallyStored_eq]
    exact .inl ⟨rfl, rfl⟩
  | @writesCp0 rt rd =>
    obtain ⟨-, hhi, hlo, -⟩ := s.cp0Write_frame rd (s.readReg rt)
    exact .inl ⟨hhi, hlo⟩
  | operatesCop2 e =>
    obtain ⟨-, hhiLo, -⟩ := applyCop2_frame s e
    exact .inl hhiLo

/-! ## CP0 (10_state.md R51; 45_cop0.md) -/

/-- MTC0 and ERET alone write CP0, and where it is usable. -/
theorem cp0 (h : Completes s i t) :
    SameCp0 s t ∨
    (∃ rt rd, i = .mtc0 rt rd ∧ Cop0Usable s ∧ t = (s.cp0Write rd (s.readReg rt)).advance) ∨
    (i = .eret ∧ Cop0Usable s ∧ t = s.returnFromException) := by
  have hsame : SameCp0 s s := ⟨rfl, rfl, rfl, rfl, rfl, rfl, rfl, rfl⟩
  cases h with
  | jumps | writesReg | setsLink | movesHi | movesLo | writesHiLo | drawsHiLo | readsCp0 | readsCop2
  | writesCop2 => exact .inl hsame
  | stores | storesCop2 =>
    rw [State.storeBytes_eq_with_mem]
    exact .inl hsame
  | storesByLink =>
    rw [State.conditionallyStored_eq]
    exact .inl hsame
  | writesCp0 husable => exact .inr (.inl ⟨_, _, rfl, husable, rfl⟩)
  | returns husable => exact .inr (.inr ⟨rfl, husable, rfl⟩)
  | operatesCop2 e =>
    obtain ⟨-, -, hcp0, -⟩ := applyCop2_frame s e
    exact .inl hcp0

/-! ## The model's own fields -/

theorem model (h : Completes s i t) : SameModel s t := by
  have hsame : SameModel s s := ⟨rfl, rfl, rfl, rfl⟩
  cases h with
  | jumps | writesReg | setsLink | movesHi | movesLo | writesHiLo | drawsHiLo | readsCp0 | returns | readsCop2
  | writesCop2 => exact hsame
  | stores | storesCop2 =>
    rw [State.storeBytes_eq_with_mem]
    exact hsame
  | storesByLink =>
    rw [State.conditionallyStored_eq]
    exact hsame
  | @writesCp0 rt rd =>
    obtain ⟨-, -, -, -, -, -, -, -, -, -, hparams, -, hinputs, hclockWait, -, hresets⟩ :=
      s.cp0Write_frame rd (s.readReg rt)
    exact ⟨hparams, hinputs, hclockWait, hresets⟩
  | operatesCop2 e =>
    obtain ⟨-, -, -, -, hmodel⟩ := applyCop2_frame s e
    exact hmodel

end Completes

/-! ## The obligations on single instructions -/

/-- Trap entry is where an instruction may go besides; it leaves the general registers, memory, `hi` and `lo` alone. -/
theorem exec_traps_or_completes {i : Instr} {s t : State} (h : exec i s = .next t) :
    (∃ e, t = s.trapEntry e) ∨ Completes s i t :=
  (exec_next h).imp_left And.right

/-- Settles O21: a register other than the destination is written by none of the shapes. -/
theorem onlyTheDestinationRegisterChanges : Obligations.OnlyTheDestinationRegisterChanges := by
  intro i s t q hcop2 hexec hq
  obtain ⟨e, rfl⟩ | hdone := exec_traps_or_completes hexec
  · exact s.trapEntry_readReg e q
  · exact hdone.readReg hcop2 hq

/-- Settles O22: of the shapes only the stores reach memory. -/
theorem onlyStoresChangeMemory : Obligations.OnlyStoresChangeMemory := by
  intro i s t a hcop2 hexec hne
  obtain ⟨e, rfl⟩ | hdone := exec_traps_or_completes hexec
  · exact absurd (s.trapEntry_load8 e a) hne
  · obtain ⟨rs, imm, n, k, hstore, -, hk, hphysical⟩ := hdone.load8 hcop2 hne
    exact ⟨rs, imm, n, k, hstore, hk, hphysical⟩

/-- Settles O23: of the shapes only those of the family reach `hi` and `lo`. -/
theorem onlyMultiplyFamilyWritesHiLo : Obligations.OnlyMultiplyFamilyWritesHiLo := by
  intro i s t hexec
  obtain ⟨e, rfl⟩ | hdone := exec_traps_or_completes hexec
  · exact .inl ⟨rfl, rfl⟩
  · exact hdone.hiLo

/-- Settles O25: trap entry does not reach the host's registers, and of the two instructions that write CP0 only MTC0 to
register 21 does, and that `tohost` alone. -/
theorem hostRegistersBelongToTheHost : Obligations.HostRegistersBelongToTheHost := by
  intro i s t hexec
  obtain ⟨e, rfl⟩ | hdone := exec_traps_or_completes hexec
  · exact ⟨rfl, rfl, .inl rfl⟩
  · obtain ⟨-, hcause, -, -, -, -, hfromhost, htohost⟩ | ⟨rt, rd, rfl, -, rfl⟩ | ⟨-, -, rfl⟩ := hdone.cp0
    · exact ⟨hfromhost, by rw [hcause], .inl htohost⟩
    · obtain ⟨-, -, -, -, -, -, hfromhost, -⟩ := s.cp0Write_frame rd (s.readReg rt)
      obtain ⟨-, -, -, hip6, -, htohost⟩ := s.cp0Write_fields rd (s.readReg rt)
      refine ⟨hfromhost, hip6, ?_⟩
      by_cases hrd : rd = 21#5
      · subst hrd
        exact .inr ⟨rt, rfl, htohost⟩
      · exact .inl (htohost.trans (if_neg hrd))
    · exact ⟨rfl, rfl, .inl rfl⟩

end Sys2Proof.Machine
end

section
/-! PROOFS (60_exceptions.md R300 part E). What the environment's actions at a boundary leave alone, and that they use
up the boundary's input. -/

namespace Sys2Proof.Machine

/-- What the clock, the host and the other processors do not reach, whatever they do (10_state.md R20). -/
structure SameBeyondEnvironment (s t : State) : Prop where
  regs : t.regs = s.regs
  hi : t.hi = s.hi
  lo : t.lo = s.lo
  pc : t.pc = s.pc
  status : t.status = s.status
  epc : t.epc = s.epc
  badvaddr : t.badvaddr = s.badvaddr
  excCode : t.cause.excCode = s.cause.excCode
  params : t.params = s.params
  resets : t.resets = s.resets

theorem SameBeyondEnvironment.trans {s t u : State} (h : SameBeyondEnvironment s t) (h' : SameBeyondEnvironment t u) :
    SameBeyondEnvironment s u :=
  ⟨h'.regs.trans h.regs, h'.hi.trans h.hi, h'.lo.trans h.lo, h'.pc.trans h.pc, h'.status.trans h.status,
    h'.epc.trans h.epc, h'.badvaddr.trans h.badvaddr, h'.excCode.trans h.excCode, h'.params.trans h.params,
    h'.resets.trans h.resets⟩

/-! ## Another processor's store changes memory alone -/

theorem State.storeWidth_eq_with_mem (s : State) (width : Width) (addr v : Word) :
    s.storeWidth width addr v = { s with mem := (s.storeWidth width addr v).mem } := by
  cases width <;> rfl

theorem State.otherSC_eq_with_mem (s : State) (addr v : Word) :
    s.otherSC addr v =
      { s with
        mem := (s.store32 addr v).mem
        linkValid := s.linkValid && !s.sameLocation addr s.linkAddr } := by
  have hstore : s.store32 addr v = { s with mem := (s.store32 addr v).mem } := by
    rw [State.store32_eq_storeBytes]
    exact s.storeBytes_eq_with_mem addr _
  unfold State.otherSC
  rw [hstore]

/-- All that an action of the environment may write: the timer and its flag, the host's register and flag, the link's
validity, and memory. -/
theorem State.envAction_eq (s : State) (a : EnvAction) :
    s.envAction a =
      { s with
        count := (s.envAction a).count
        cause := { s.cause with ip7 := (s.envAction a).cause.ip7, ip6 := (s.envAction a).cause.ip6 }
        fromhost := (s.envAction a).fromhost
        linkValid := (s.envAction a).linkValid
        mem := (s.envAction a).mem } := by
  cases a with
  | tick | hostWriteFromhost | hostReadTohost | hostSetIP6 | clearLink => rfl
  | otherStore width addr v =>
    simp only [State.envAction]
    split
    · rw [State.storeWidth_eq_with_mem]
    · rfl
  | otherSC addr v =>
    simp only [State.envAction]
    split
    · rw [State.otherSC_eq_with_mem]
    · rfl

theorem State.envAction_sameBeyond (s : State) (a : EnvAction) : SameBeyondEnvironment s (s.envAction a) := by
  rw [State.envAction_eq]
  exact ⟨rfl, rfl, rfl, rfl, rfl, rfl, rfl, rfl, rfl, rfl⟩

theorem State.environment_sameBeyond (s : State) : SameBeyondEnvironment s s.environment := by
  refine State.environment_induction (P := SameBeyondEnvironment s) s ?clock ?tail ?action
  case clock => exact ⟨rfl, rfl, rfl, rfl, rfl, rfl, rfl, rfl, rfl, rfl⟩
  case tail => exact ⟨rfl, rfl, rfl, rfl, rfl, rfl, rfl, rfl, rfl, rfl⟩
  case action => exact fun t a _ h => h.trans (t.envAction_sameBeyond a)

/-! ## Memory where no other agent stores -/

theorem State.envAction_mem {s : State} {a : EnvAction} (h : StoresNothing a) : (s.envAction a).mem = s.mem := by
  cases a with
  | otherStore | otherSC => exact h.elim
  | tick | hostWriteFromhost | hostReadTohost | hostSetIP6 | clearLink => rfl

theorem State.environment_mem {s : State} (h : ∀ a ∈ s.nextInput.actions, StoresNothing a) :
    s.environment.mem = s.mem := by
  refine State.environment_induction (P := fun t => t.mem = s.mem) s rfl rfl ?action
  case action => exact fun t a ha hmem => (State.envAction_mem (h a ha)).trans hmem

theorem State.environment_load8 {s : State} (h : ∀ a ∈ s.nextInput.actions, StoresNothing a) (p : Word) :
    s.environment.load8 p = s.load8 p :=
  State.load8_of_mem_eq (State.environment_mem h) s.environment_sameBeyond.params s.environment_sameBeyond.resets p

/-! ## The inputs and the timer flag -/

theorem State.envAction_inputs (s : State) (a : EnvAction) : (s.envAction a).inputs = s.inputs := by
  rw [State.envAction_eq]

/-- A boundary uses up its input, if one is listed. -/
theorem State.environment_inputs (s : State) : s.environment.inputs = s.inputs.tail := by
  cases hinputs : s.inputs with
  | nil => rw [State.environment_of_nil hinputs, State.freeClock_inputs, hinputs, List.tail_nil]
  | cons input rest =>
    have hkeep (actions : List EnvAction) (t : State) (ht : t.inputs = rest) :
        (actions.foldl State.envAction t).inputs = rest := by
      induction actions generalizing t with
      | nil => exact ht
      | cons a actions ih => exact ih _ ((t.envAction_inputs a).trans ht)
    rw [State.environment, hinputs, List.tail_cons]
    exact hkeep input.actions { s with inputs := rest } rfl

/-- No action of the environment clears IP7 (10_state.md R36). -/
theorem State.envAction_ip7 {s : State} (a : EnvAction) (h : s.cause.ip7 = true) :
    (s.envAction a).cause.ip7 = true := by
  cases a with
  | tick => simp [State.envAction, h]
  | hostWriteFromhost | hostReadTohost | hostSetIP6 | clearLink => exact h
  | otherStore width addr v =>
    simp only [State.envAction]
    split
    · rwa [State.storeWidth_eq_with_mem]
    · exact h
  | otherSC addr v =>
    simp only [State.envAction]
    split
    · rwa [State.otherSC_eq_with_mem]
    · exact h

theorem State.environment_ip7 {s : State} (h : s.cause.ip7 = true) : s.environment.cause.ip7 = true := by
  refine State.environment_induction (P := fun t => t.cause.ip7 = true) s ?clock h ?action
  case clock => simp [h]
  case action => exact fun t a _ ht => State.envAction_ip7 a ht

end Sys2Proof.Machine
end

section
/-! PROOFS (60_exceptions.md R300). What a step is at each kind of boundary, and what it can answer, said once by the
shapes of the instructions. -/

namespace Sys2Proof.Machine

/-! ## The step at each kind of boundary -/

theorem step_of_reset {s : State} (h : s.nextInput.reset = true) : step s = .next s.environment.resetEvent := by
  simp [step, h]

theorem step_of_interrupt {s : State} (hreset : s.nextInput.reset = false) (hv : s.params.variant = .v3)
    (hpending : s.environment.interruptEnabledPending = true) (hdefer : s.nextInput.defer = false) :
    step s = .next s.environment.takeInterrupt := by
  simp [step, hreset, s.takesInterrupt_iff.2 ⟨hv, hpending, hdefer⟩]

/-- A boundary without reset at which no instruction runs takes an interrupt. -/
theorem step_of_not_boundaryRunsInstruction {s : State} (hreset : s.nextInput.reset = false)
    (h : ¬ BoundaryRunsInstruction s) : s.params.variant = .v3 ∧ step s = .next s.environment.takeInterrupt := by
  obtain ⟨hpending, hdefer, hv⟩ := by
    simpa only [BoundaryRunsInstruction, hreset, true_and, not_or, Bool.not_eq_false, Bool.not_eq_true, ne_eq,
      not_not] using h
  exact ⟨hv, step_of_interrupt hreset hv hpending hdefer⟩

/-! ## Fetching (20_memory.md R80) -/

theorem State.fetch_of_not_accessOk {s : State} (h : ¬ AccessOk s s.pc 4) : s.fetch = none := by
  simp [State.fetch, addressError_of_not_accessOk h]

theorem State.runInstruction_of_not_accessOk {s : State} (h : ¬ AccessOk s s.pc 4) :
    s.runInstruction = s.raiseInVariant .adEF := by
  simp [State.runInstruction, State.fetch_of_not_accessOk h]

theorem State.runInstruction_of_decode_reserved {s : State} (hok : AccessOk s s.pc 4) {why : Reject}
    (hdecode : decodeWord (s.load32 s.pc) = .reserved why) : s.runInstruction = s.raiseInVariant .ri := by
  simp [State.runInstruction, State.fetch_of_accessOk hok, hdecode]

theorem State.runInstruction_of_decode_instr {s : State} (hok : AccessOk s s.pc 4) {i : Instr}
    (hdecode : decodeWord (s.load32 s.pc) = .instr i) :
    s.runInstruction = if s.inVariant i then exec i s else .refused .outsideVariant := by
  simp [State.runInstruction, State.fetch_of_accessOk hok, hdecode]

theorem State.raiseInVariant_of_v3 {s : State} (h : s.params.variant = .v3) (e : Exc) :
    s.raiseInVariant e = .next (s.trapEntry e) :=
  State.raiseInVariant_next.2 ⟨h, rfl⟩

theorem State.raiseInVariant_of_ne_v3 {s : State} (h : s.params.variant ≠ .v3) (e : Exc) :
    s.raiseInVariant e = .refused .outsideVariant := by
  rw [State.raiseInVariant, if_neg (by rwa [hasExceptions_iff])]

/-! ## What a step answers -/

/-- What a smaller variant runs raises no exception (30_encoding.md R136). -/
theorem not_mayRaise_of_inVariant {s : State} {i : Instr} (hv : s.params.variant ≠ .v3) (h : s.inVariant i = true) :
    ¬ MayRaise s i := by
  have hnot : ¬ hasExceptions s.params.variant = true := by rwa [hasExceptions_iff]
  obtain ⟨himplemented, hwithin⟩ : implemented s.params i = true ∧ s.withinSmallVariant i = true := by
    simpa [State.inVariant, hnot] using h
  rintro (hrow | houtside)
  · rw [implemented, hrow] at himplemented
    cases hvariant : s.params.variant <;> simp_all [variantDigit]
  · simp [houtside] at hwithin

/-- Fetching, decoding and executing takes a trap, in SMIPSv3, or completes the instruction at pc. -/
theorem State.runInstruction_ends {s t : State} (h : s.runInstruction = .next t) :
    (s.params.variant = .v3 ∧ ∃ e, t = s.trapEntry e) ∨
    ∃ i, decodeWord (s.load32 s.pc) = .instr i ∧ AccessOk s s.pc 4 ∧ s.inVariant i = true ∧ exec i s = .next t ∧
      Completes s i t := by
  obtain ⟨hv, -, htrap⟩ | ⟨hv, w, why, -, -, htrap⟩ | ⟨w, i, hfetch, hdecode, hin, hexec⟩ := State.runInstruction_next h
  · exact .inl ⟨hv, .adEF, htrap⟩
  · exact .inl ⟨hv, .ri, htrap⟩
  · obtain ⟨haddr, rfl⟩ := State.fetch_eq_some.1 hfetch
    obtain ⟨hraise, htrap⟩ | hdone := exec_next hexec
    · exact .inl ⟨by_contra fun hv => not_mayRaise_of_inVariant hv hin hraise, htrap⟩
    · exact .inr ⟨i, hdecode, (accessOk_iff s s.pc 4).2 haddr, hin, hexec, hdone⟩

/-- A step is a reset, a trap entry (of an interrupt or an exception), or a completed instruction. -/
theorem step_ends {s t : State} (h : step s = .next t) :
    (s.nextInput.reset = true ∧ t = s.environment.resetEvent) ∨
    (s.nextInput.reset = false ∧ s.params.variant = .v3 ∧ ∃ e, t = s.environment.trapEntry e) ∨
    (BoundaryRunsInstruction s ∧ ∃ i, NextInstruction s i ∧ AccessOk s.environment s.environment.pc 4 ∧
      s.environment.inVariant i = true ∧ exec i s.environment = .next t ∧ Completes s.environment i t) := by
  cases hreset : s.nextInput.reset with
  | true =>
    rw [step_of_reset hreset] at h
    exact .inl ⟨rfl, (Host.Outcome.next.inj h).symm⟩
  | false =>
    refine .inr ?_
    by_cases hruns : BoundaryRunsInstruction s
    · rw [step_of_boundaryRunsInstruction hruns] at h
      obtain ⟨hv, htrap⟩ | hinstr := State.runInstruction_ends h
      · exact .inl ⟨rfl, by simpa using hv, htrap⟩
      · exact .inr ⟨hruns, hinstr⟩
    · obtain ⟨hv, hstep⟩ := step_of_not_boundaryRunsInstruction hreset hruns
      rw [hstep] at h
      exact .inl ⟨rfl, hv, _, (Host.Outcome.next.inj h).symm⟩

@[simp] theorem State.resetEvent_params (s : State) : s.resetEvent.params = s.params := by
  rw [State.resetEvent]

@[simp] theorem State.resetEvent_inputs (s : State) : s.resetEvent.inputs = s.inputs := by
  rw [State.resetEvent]

/-- What a step does to the model's own fields: the parameters stay, the input is used up, and the clock's wait is what
the boundary left. -/
theorem step_model {s t : State} (h : step s = .next t) :
    t.params = s.params ∧ t.inputs = s.inputs.tail ∧
      (s.nextInput.reset = false → t.clockWait = s.environment.clockWait) := by
  rw [← s.environment_params, ← s.environment_inputs]
  obtain ⟨hreset, rfl⟩ | ⟨-, -, e, rfl⟩ | ⟨-, i, -, -, -, -, hdone⟩ := step_ends h
  · exact ⟨s.environment.resetEvent_params, s.environment.resetEvent_inputs, fun hnot => by simp [hreset] at hnot⟩
  · exact ⟨s.environment.trapEntry_params e, s.environment.trapEntry_inputs e, fun _ => rfl⟩
  · obtain ⟨hparams, hinputs, hclockWait, -⟩ := hdone.model
    exact ⟨hparams, hinputs, fun _ => hclockWait⟩

/-! ## The obligations on single steps -/

/-- Without other inputs the environment is so many ticks of the clock (log 4). -/
theorem State.environment_eq_ticks {s : State} (h : s.inputs = []) :
    s.environment = { State.tick^[s.freeTicks] s with
      clockWait := s.environment.clockWait, draws := s.environment.draws } := by
  rw [State.environment_of_nil h, ← State.ticks_eq_iterate_tick]
  rfl

/-- The rows of the table that SMIPSv1 contains (R125). -/
theorem mnemonic_of_v1_row :
    ∀ r ∈ opcodeTable, r.variant = some .v1 → r.mnemonic ∈ ["ADDIU", "BNE", "LW", "SW", "MTC0"] := by
  decide

/-- Without a coprocessor SMIPSv1 runs instructions of its own rows alone. -/
theorem row_variant_of_v1 {s : State} {i : Instr} (hv : s.params.variant = .v1) (hcop2 : s.params.hasCop2 = false)
    (h : s.inVariant i = true) : i.row.variant = some .v1 := by
  have himplemented : implemented s.params i = true := by
    obtain ⟨hrow, -⟩ : implemented s.params i = true ∧ s.withinSmallVariant i = true := by
      simpa [State.inVariant, hasExceptions, hv] using h
    exact hrow
  unfold implemented at himplemented
  cases hrow : i.row.variant with
  | none => simp [hrow, hcop2] at himplemented
  | some v => cases v <;> simp [hrow, hv, variantDigit] at himplemented ⊢

/-- Settles O6: the four bytes at pc are the fetched word, which decodes to the instruction. -/
theorem stepRunsTheDecodedInstruction : Obligations.StepRunsTheDecodedInstruction := by
  refine ⟨fun s i hruns hok hbytes => ?step, fun s i hv => State.inVariant_of_v3 hv i,
    fun s i hv hcop2 hin => ?v1, fun s hinputs => ⟨s.freeTicks, State.environment_eq_ticks hinputs⟩⟩
  case step =>
    rw [step_of_boundaryRunsInstruction hruns]
    exact State.runInstruction_of_decode_instr hok hbytes
  case v1 => exact mnemonic_of_v1_row i.row i.row_mem_opcodeTable (row_variant_of_v1 hv hcop2 hin)

/-- Settles O8: both a fetch that fails and a reserved word raise an exception, which the smaller variants refuse. -/
theorem badFetchTakesAdEF : Obligations.BadFetchTakesAdEF := by
  intro s hruns
  rw [step_of_boundaryRunsInstruction hruns, ← s.environment_params]
  refine ⟨fun hv hbad => ?v3, fun hv hcause => ?smaller⟩
  case v3 =>
    rw [State.runInstruction_of_not_accessOk hbad, State.raiseInVariant_of_v3 hv]
    exact ⟨_, rfl, trapped_trapEntry s.environment .adEF⟩
  case smaller =>
    by_cases hok : AccessOk s.environment s.environment.pc 4
    · obtain ⟨why, hreserved⟩ := hcause.resolve_left (not_not.2 hok)
      rw [State.runInstruction_of_decode_reserved hok hreserved, State.raiseInVariant_of_ne_v3 hv]
    · rw [State.runInstruction_of_not_accessOk hok, State.raiseInVariant_of_ne_v3 hv]

/-- Settles O12: an interrupt that is not deferred is taken, and a boundary that runs an instruction runs it. -/
theorem pendingInterruptIsTaken : Obligations.PendingInterruptIsTaken := by
  intro s hreset
  refine ⟨fun hv hpending hdefer => ?taken, step_of_boundaryRunsInstruction⟩
  case taken => exact ⟨_, step_of_interrupt hreset hv hpending hdefer, interruptEntry s.environment hpending⟩

/-- Settles O13: the step is the reset event, which sets these four. -/
theorem resetEventRestarts : Obligations.ResetEventRestarts :=
  fun _ hreset => ⟨_, step_of_reset hreset, rfl, rfl, rfl, rfl⟩

/-- Settles O14: the state after reset is closed, so each value is read off. -/
theorem resetStateIsAsStated : Obligations.ResetStateIsAsStated :=
  ⟨rfl, rfl, rfl, rfl, rfl, ⟨rfl, .inl rfl⟩, rfl⟩

/-! ## CP0 and the mode over a step (10_state.md R36; 60_exceptions.md R342) -/

/-- Settles O18: with CP0 not usable a completed instruction leaves `status` alone. -/
theorem userModeCannotChangeStatus : Obligations.UserModeCannotChangeStatus := by
  intro s t huser hcu0 hstep
  obtain ⟨-, rfl⟩ | ⟨-, -, e, rfl⟩ | ⟨-, i, -, -, -, -, hdone⟩ := step_ends hstep
  · exact .inr ⟨rfl, rfl, .inr rfl⟩
  · exact .inr ⟨rfl, rfl, .inl rfl⟩
  · have hunusable : ¬ Cop0Usable s.environment := by simp [Cop0Usable, huser, hcu0]
    obtain ⟨hstatus, -⟩ | ⟨rt, rd, -, husable, -⟩ | ⟨-, husable, -⟩ := hdone.cp0
    · exact .inl (hstatus.trans s.environment_status)
    · exact absurd husable hunusable
    · exact absurd husable hunusable

/-- An instruction that completes leaves the exception registers alone, since MTC0 does not reach them. -/
theorem Completes.exceptionRegisters {i : Instr} {s t : State} (h : Completes s i t) :
    t.epc = s.epc ∧ t.badvaddr = s.badvaddr ∧ t.cause.excCode = s.cause.excCode := by
  obtain ⟨-, hcause, hepc, hbadvaddr, -⟩ | ⟨rt, rd, -, -, rfl⟩ | ⟨-, -, rfl⟩ := h.cp0
  · exact ⟨hepc, hbadvaddr, by rw [hcause]⟩
  · obtain ⟨-, -, -, -, hepc, hbadvaddr, -⟩ := s.cp0Write_frame rd (s.readReg rt)
    obtain ⟨-, -, -, -, hexcCode, -⟩ := s.cp0Write_fields rd (s.readReg rt)
    exact ⟨hepc, hbadvaddr, hexcCode⟩
  · exact ⟨rfl, rfl, rfl⟩

/-- Of the CP0 registers the smaller variants write `tohost` alone, and they have no ERET. -/
theorem Completes.status_of_ne_v3 {i : Instr} {s t : State} (h : Completes s i t) (hv : s.params.variant ≠ .v3)
    (hin : s.inVariant i = true) : t.status = s.status := by
  have hquiet := not_mayRaise_of_inVariant hv hin
  obtain ⟨hstatus, -⟩ | ⟨rt, rd, rfl, -, rfl⟩ | ⟨rfl, -, -⟩ := h.cp0
  · exact hstatus
  · refine State.cp0Write_status_of_ne ?_
    rintro rfl
    exact hquiet (.inr rfl)
  · exact absurd (.inl rfl) hquiet

/-- Settles O24: an instruction that takes no trap leaves the three alone, and a step of a smaller variant is such an
instruction. -/
theorem exceptionRegistersChangeOnlyByTrap : Obligations.ExceptionRegistersChangeOnlyByTrap := by
  refine ⟨fun i s t hexec => ?instruction, fun s t hv hreset hstep => ?smaller⟩
  case instruction => exact (exec_traps_or_completes hexec).imp_right Completes.exceptionRegisters
  case smaller =>
    obtain ⟨hreset', -⟩ | ⟨-, hv', -⟩ | ⟨-, i, -, -, hin, -, hdone⟩ := step_ends hstep
    · simp [hreset] at hreset'
    · exact absurd hv' hv
    · have henv := s.environment_sameBeyond
      obtain ⟨hepc, hbadvaddr, hexcCode⟩ := hdone.exceptionRegisters
      have hstatus := hdone.status_of_ne_v3 (by rwa [s.environment_params]) hin
      exact ⟨hepc.trans henv.epc, hbadvaddr.trans henv.badvaddr, hexcCode.trans henv.excCode,
        hstatus.trans henv.status⟩

/-- Settles O26: neither the environment nor trap entry clears the flag, and of the instructions MTC0 to register 11
alone does, where it is run. -/
theorem timerFlagClearedOnlyByCompareWrite : Obligations.TimerFlagClearedOnlyByCompareWrite := by
  intro s t hip7 hstep
  have hflag := State.environment_ip7 hip7
  obtain ⟨hreset, -⟩ | ⟨-, -, e, rfl⟩ | ⟨hruns, i, hnext, hok, -, -, hdone⟩ := step_ends hstep
  · exact .inr (.inl hreset)
  · exact .inl hflag
  · obtain ⟨-, hcause, -⟩ | ⟨rt, rd, rfl, husable, rfl⟩ | ⟨-, -, rfl⟩ := hdone.cp0
    · exact .inl (by rw [hcause, hflag])
    · by_cases hrd : rd = 11#5
      · subst hrd
        exact .inr (.inr ⟨hruns, hok, husable, rt, hnext⟩)
      · obtain ⟨-, -, hkept, -⟩ := s.environment.cp0Write_fields rd (s.environment.readReg rt)
        exact .inl (hkept.trans (by rw [if_neg hrd, hflag]))
    · exact .inl hflag

end Sys2Proof.Machine
end

section
/-! PROOFS (70_reset_and_hazards.md R381). No step stops but for the refusal of the smaller variants, and once the
inputs are used up the clock's wait runs out. -/

namespace Sys2Proof.Machine

/-! ## Every step answers -/

theorem State.raiseInVariant_answers (s : State) (e : Exc) :
    (∃ t, s.raiseInVariant e = .next t) ∨
      (s.params.variant ≠ .v3 ∧ s.raiseInVariant e = .refused .outsideVariant) := by
  by_cases hv : s.params.variant = .v3
  · exact .inl ⟨_, State.raiseInVariant_of_v3 hv e⟩
  · exact .inr ⟨hv, State.raiseInVariant_of_ne_v3 hv e⟩

theorem State.runInstruction_answers (s : State) :
    (∃ t, s.runInstruction = .next t) ∨ (s.params.variant ≠ .v3 ∧ s.runInstruction = .refused .outsideVariant) := by
  by_cases hok : AccessOk s s.pc 4
  · cases hdecode : decodeWord (s.load32 s.pc) with
    | reserved why =>
      rw [State.runInstruction_of_decode_reserved hok hdecode]
      exact s.raiseInVariant_answers .ri
    | instr i =>
      rw [State.runInstruction_of_decode_instr hok hdecode]
      split
      case isTrue => exact .inl (exec_exists_next i s)
      case isFalse hout => exact .inr ⟨fun hv => hout (State.inVariant_of_v3 hv i), rfl⟩
  · rw [State.runInstruction_of_not_accessOk hok]
    exact s.raiseInVariant_answers .adEF

theorem step_answers (s : State) :
    (∃ t, step s = .next t) ∨ (s.params.variant ≠ .v3 ∧ step s = .refused .outsideVariant) := by
  cases hreset : s.nextInput.reset with
  | true => exact .inl ⟨_, step_of_reset hreset⟩
  | false =>
    by_cases hruns : BoundaryRunsInstruction s
    · rw [step_of_boundaryRunsInstruction hruns, ← s.environment_params]
      exact s.environment.runInstruction_answers
    · exact .inl ⟨_, (step_of_not_boundaryRunsInstruction hreset hruns).2⟩

/-- SMIPSv3 steps from every state, and stays SMIPSv3. -/
theorem step_of_v3 {s : State} (hv : s.params.variant = .v3) : ∃ t, step s = .next t ∧ t.params.variant = .v3 := by
  obtain ⟨t, hstep⟩ | ⟨hnot, -⟩ := step_answers s
  · obtain ⟨hparams, -⟩ := step_model hstep
    exact ⟨t, hstep, by rw [hparams, hv]⟩
  · exact absurd hv hnot

/-! ## Runs of any length -/

theorem runsFor_of_v3 (n : Nat) (s : State) (hv : s.params.variant = .v3) : RunsFor n s := by
  induction n generalizing s with
  | zero => exact ⟨s, rfl⟩
  | succ n ih =>
    obtain ⟨u, hstep, hu⟩ := step_of_v3 hv
    obtain ⟨t, hrun⟩ := ih u hu
    exact ⟨t, (core_run_succ hstep n).trans hrun⟩

/-! ## The clock goes on -/

/-- A run from `s` comes to a boundary of which no input is listed and at which the clock ticks. -/
def ComesToTick (s : State) : Prop := ∃ n t, Sys2Proof.core.run n s = .next t ∧ t.inputs = [] ∧ ClockTicks t

theorem ComesToTick.of_step {s u : State} (hstep : step s = .next u) (h : ComesToTick u) : ComesToTick s := by
  obtain ⟨n, t, hrun, ht⟩ := h
  exact ⟨n + 1, t, (core_run_succ hstep n).trans hrun, ht⟩

theorem clockTicks_of_no_wait {s : State} (hinputs : s.inputs = []) (hwait : s.clockWait = 0) : ClockTicks s :=
  ⟨s.freeTicks, by simp [State.freeTicks, hwait], State.environment_eq_ticks hinputs⟩

/-- With no input listed each step shortens the wait by one, until the clock ticks. -/
theorem comesToTick_of_no_inputs {s : State} (hv : s.params.variant = .v3) (hinputs : s.inputs = []) :
    ComesToTick s := by
  induction hwait : s.clockWait generalizing s with
  | zero => exact ⟨0, s, rfl, hinputs, clockTicks_of_no_wait hinputs hwait⟩
  | succ w ih =>
    obtain ⟨u, hstep, hu⟩ := step_of_v3 hv
    obtain ⟨-, hinputs', hwait'⟩ := step_model hstep
    have hreset : s.nextInput.reset = false := by rw [State.nextInput, hinputs]; rfl
    have hshorter : u.clockWait = w := by
      rw [hwait' hreset, State.environment_of_nil hinputs, State.freeClock_clockWait, State.freeWait, hwait]
      rfl
    exact (ih hu (by rw [hinputs', hinputs, List.tail_nil]) hshorter).of_step hstep

/-- Each step uses up an input, until none is listed. -/
theorem comesToTick_of_v3 {s : State} (hv : s.params.variant = .v3) : ComesToTick s := by
  induction hinputs : s.inputs generalizing s with
  | nil => exact comesToTick_of_no_inputs hv hinputs
  | cons input rest ih =>
    obtain ⟨u, hstep, hu⟩ := step_of_v3 hv
    obtain ⟨-, hinputs', -⟩ := step_model hstep
    exact (ih hu (by rw [hinputs', hinputs, List.tail_cons])).of_step hstep

/-- Settles O7: every step answers, so every run does, and the inputs and then the clock's wait run out. -/
theorem stepNeverStops : Obligations.StepNeverStops :=
  ⟨step_answers, runsFor_of_v3, fun _ => comesToTick_of_v3⟩

end Sys2Proof.Machine
end

section
/-! PROOFS (20_memory.md R71, 10_state.md R58). The invariant of every state: memory stays in canonical form within the
implemented addresses, whatever stores to it. -/

namespace Sys2Proof.Machine

/-! ## The invariant on memory -/

/-- Memory is in canonical form within the addresses the state's own parameters implement. -/
def State.MemoryWf (s : State) : Prop := memoryWf s.params.paBits s.mem = true

theorem State.memoryWf_iff (s : State) :
    s.MemoryWf ↔ s.mem.wf ∧ ∀ c ∈ s.mem, c.1 < 2 ^ s.params.paBits := by
  simp [State.MemoryWf, memoryWf]

theorem State.MemoryWf.of_eq {s t : State} (h : s.MemoryWf) (hmem : t.mem = s.mem) (hparams : t.params = s.params) :
    t.MemoryWf := by
  rwa [State.MemoryWf, hmem, hparams]

/-- A stored byte goes to an implemented address (R71). -/
theorem State.MemoryWf.store8 {s : State} (h : s.MemoryWf) (a : Word) (b : Byte) : (s.store8 a b).MemoryWf := by
  obtain ⟨hcanonical, himplemented⟩ := s.memoryWf_iff.1 h
  refine (s.store8 a b).memoryWf_iff.2 ⟨State.store8_wf hcanonical a b, fun c hc => ?_⟩
  obtain rfl | hold := Memory.mem_insert hc
  · exact Nat.mod_lt _ (by positivity)
  · exact himplemented c hold

theorem State.MemoryWf.storeBytes {s : State} (h : s.MemoryWf) (a : Word) (bytes : List Byte) :
    (s.storeBytes a bytes).MemoryWf := by
  induction bytes generalizing s a with
  | nil => exact h
  | cons b bytes ih => exact ih (h.store8 a b) (a + 1#32)

theorem State.MemoryWf.store32 {s : State} (h : s.MemoryWf) (a v : Word) : (s.store32 a v).MemoryWf := by
  rw [State.store32_eq_storeBytes]
  exact h.storeBytes a _

theorem State.MemoryWf.storeWidth {s : State} (h : s.MemoryWf) (width : Width) (a v : Word) :
    (s.storeWidth width a v).MemoryWf := by
  cases width with
  | byte => exact h.store8 a _
  | half => exact (h.store8 a _).store8 (a + 1#32) _
  | word => exact h.store32 a v

theorem State.MemoryWf.applyCop2 {s : State} (h : s.MemoryWf) (e : Cop2Effect) : (s.applyCop2 e).MemoryWf :=
  State.applyCop2_induction (P := State.MemoryWf) s e h (fun _ _ _ ht => ht) fun _ a b ht => ht.store8 a b

theorem State.MemoryWf.conditionallyStored {s : State} (h : s.MemoryWf) (a : Word) (rt : Reg) :
    (s.conditionallyStored a rt).MemoryWf := by
  unfold State.conditionallyStored
  split
  · exact h.store32 a (s.readReg rt)
  · exact h

/-! ## What keeps it -/

theorem State.MemoryWf.envAction {s : State} (h : s.MemoryWf) (a : EnvAction) : (s.envAction a).MemoryWf := by
  cases a with
  | tick | hostWriteFromhost | hostReadTohost | hostSetIP6 | clearLink => exact h
  | otherStore width addr v =>
    simp only [State.envAction]
    split
    · exact h.storeWidth width addr v
    · exact h
  | otherSC addr v =>
    simp only [State.envAction]
    split
    · exact h.store32 addr v
    · exact h

theorem State.MemoryWf.environment {s : State} (h : s.MemoryWf) : s.environment.MemoryWf :=
  State.environment_induction (P := State.MemoryWf) s h h fun _ a _ ht => ht.envAction a

theorem State.MemoryWf.resetEvent (s : State) : s.resetEvent.MemoryWf :=
  s.resetEvent.memoryWf_iff.2 ⟨List.Pairwise.nil, fun _ hc => absurd hc List.not_mem_nil⟩

theorem Completes.memoryWf {i : Instr} {s t : State} (hdone : Completes s i t) (h : s.MemoryWf) : t.MemoryWf := by
  cases hdone with
  | jumps | writesReg | setsLink | movesHi | movesLo | writesHiLo | drawsHiLo | readsCp0 | returns | readsCop2
  | writesCop2 => exact h
  | stores bytes | storesCop2 bytes => exact h.storeBytes _ bytes
  | storesByLink => exact h.conditionallyStored _ _
  | @writesCp0 rt rd =>
    obtain ⟨-, -, -, -, -, -, -, -, -, hmem, hparams, -⟩ := s.cp0Write_frame rd (s.readReg rt)
    exact h.of_eq hmem hparams
  | operatesCop2 e => exact h.applyCop2 e

theorem step_memoryWf {s t : State} (hstep : step s = .next t) (h : s.MemoryWf) : t.MemoryWf := by
  obtain ⟨-, rfl⟩ | ⟨-, -, e, rfl⟩ | ⟨-, i, -, -, -, -, hdone⟩ := step_ends hstep
  · exact State.MemoryWf.resetEvent s.environment
  · exact h.environment
  · exact hdone.memoryWf h.environment

/-- Settles O15: the parameters stay, so what they ask of memory and of the inputs stays, and the inputs left are among
those there were. -/
theorem stepKeepsWellFormed : Obligations.StepKeepsWellFormed := by
  intro s t hwf hstep
  obtain ⟨hparams, hinputs, -⟩ := step_model hstep
  refine ⟨?wf, hparams, hinputs⟩
  case wf =>
    obtain ⟨⟨hlegal, hmem⟩, hactions⟩ : (paramsWf s.params = true ∧ s.MemoryWf) ∧ s.inputs.all boundaryWf = true := by
      simpa [State.wf, State.MemoryWf] using hwf
    have hmem' : memoryWf s.params.paBits t.mem = true := hparams ▸ step_memoryWf hstep hmem
    have hactions' : s.inputs.tail.all boundaryWf = true :=
      List.all_eq_true.2 fun b hb => List.all_eq_true.1 hactions b (List.mem_of_mem_tail hb)
    simp only [State.wf, hparams, hinputs, hlegal, hmem', hactions', Bool.and_true]

/-- Settles O16: the check runs on the closed state. -/
theorem resetIsWellFormed : Obligations.ResetIsWellFormed := rfl

end Sys2Proof.Machine
end

section
/-! PROOFS (60_exceptions.md R352). The branch to itself, at which a run has ended. -/

namespace Sys2Proof.Machine

/-- The word 0x1000ffff is a branch that is always taken, to itself (R352). -/
theorem decodeWord_selfBranch : decodeWord 0x1000ffff#32 = .instr (.beq 0#5 0#5 0xffff#16) := rfl

theorem branchTarget_self (pc : Word) : branchTarget pc 0xffff#16 = pc := by
  have hback : 4#32 + BitVec.ofInt 32 (4 * (0xffff#16).toInt) = 0#32 := by decide
  rw [branchTarget_eq, BitVec.add_assoc, hback, BitVec.add_zero]

theorem exec_selfBranch (s : State) : exec (.beq 0#5 0#5 0xffff#16) s = .next (s.jumpTo s.pc) := by
  rw [exec_beq, beq_self_eq_true, State.branch_eq, if_pos rfl, branchTarget_self]

/-- What can be loaded and fetched does not depend on what the environment may change, where no other agent stores. -/
theorem State.environment_load32 {s : State} (h : ∀ a ∈ s.nextInput.actions, StoresNothing a) (p : Word) :
    s.environment.load32 p = s.load32 p := by
  simp only [State.load32, State.environment_load8 h]

/-- With the enables as the convention has them no interrupt is pending, whatever the flags. -/
theorem not_pending_of_runEnded {s t : State} (h : RunEnded s) (hstatus : t.status = s.status) :
    t.interruptEnabledPending = false := by
  obtain ⟨-, hiec | ⟨him7, him6⟩⟩ := h
  · simp [State.interruptEnabledPending, State.hintReady, State.tintReady, hstatus, hiec]
  · simp [State.interruptEnabledPending, State.hintReady, State.tintReady, hstatus, him7, him6]

/-- Settles O27: the step is the branch to itself, in the state after the environment's actions, which leave all that is
spoken of alone. -/
theorem endedRunStaysEnded : Obligations.EndedRunStaysEnded := by
  intro s t hended hok hreset hstores hstep
  have henv := s.environment_sameBeyond
  obtain ⟨hword, hmask⟩ := hended
  have hok' : AccessOk s.environment s.environment.pc 4 := by rwa [AccessOk, henv.pc, henv.status]
  have hdecode : decodeWord (s.environment.load32 s.environment.pc) = .instr (.beq 0#5 0#5 0xffff#16) := by
    rw [henv.pc, State.environment_load32 hstores, hword, decodeWord_selfBranch]
  rw [step_of_boundaryRunsInstruction ⟨hreset, .inl (not_pending_of_runEnded ⟨hword, hmask⟩ henv.status)⟩,
    State.runInstruction_of_decode_instr hok' hdecode, exec_selfBranch] at hstep
  obtain rfl : s.environment.jumpTo s.environment.pc = t := by
    split at hstep
    · exact Host.Outcome.next.inj hstep
    · cases hstep
  refine ⟨henv.pc, State.readReg_congr henv.regs, ⟨henv.hi, henv.lo⟩, State.environment_load8 hstores, henv.status,
    ⟨?word, ?mask⟩, hok'⟩
  case word => rw [State.jumpTo_load32, State.jumpTo_pc, henv.pc, State.environment_load32 hstores, hword]
  case mask => rwa [State.jumpTo_status, henv.status]

end Sys2Proof.Machine
end

section
/-! PROOFS (20_memory.md R79, R80; 60_exceptions.md R343). Memory protection: what user mode may access lies in the
upper half of the address space, so it can neither change the kernel-only segment nor learn of it. -/

namespace Sys2Proof.Machine

/-! ## What user mode may access -/

/-- The widths of the stores. -/
theorem storeOperand_bytes {i : Instr} {rs : Reg} {imm : Half} {n : Nat} (h : storeOperand i = some (rs, imm, n)) :
    n = 1 ∨ n = 2 ∨ n = 4 := by
  cases i <;> simp_all [storeOperand]

/-- An aligned access that starts in the upper half of the address space ends there. -/
theorem msb_add_of_aligned {a : Word} {n k : Nat} (hn : n = 1 ∨ n = 2 ∨ n = 4) (hmsb : a.msb = true)
    (haligned : a.toNat % n = 0) (hk : k < n) : (a + BitVec.ofNat 32 k).msb = true := by
  have ha := a.isLt
  rw [BitVec.msb_eq_decide, decide_eq_true_iff] at hmsb ⊢
  rw [BitVec.toNat_add, BitVec.toNat_ofNat]
  obtain rfl | rfl | rfl := hn <;> omega

/-- What user mode may access lies in the upper half. -/
theorem msb_of_accessOk {s : State} {a : Word} {n k : Nat} (huser : s.status.kuc = true) (hok : AccessOk s a n)
    (hn : n = 1 ∨ n = 2 ∨ n = 4) (hk : k < n) : (a + BitVec.ofNat 32 k).msb = true := by
  obtain ⟨haligned, hmode⟩ := hok
  exact msb_add_of_aligned hn (hmode.resolve_left (by simp [huser])) haligned hk

/-- With 32 address bits a physical address is the address (R71). -/
theorem eq_of_physical_eq {s : State} (hbits : s.params.paBits = 32) {a b : Word} (h : s.physical a = s.physical b) :
    a = b := by
  apply BitVec.eq_of_toNat_eq
  rwa [State.physical, State.physical, hbits, Nat.mod_eq_of_lt a.isLt, Nat.mod_eq_of_lt b.isLt] at h

/-! ## Writing (R343) -/

/-- Without the coprocessor a COP2 operation raises RI, and any other instruction is as it always is. -/
theorem exec_without_cop2 {i : Instr} {s t : State} (hcop2 : s.params.hasCop2 = false) (h : exec i s = .next t) :
    (∃ e, t = s.trapEntry e) ∨ (∀ f, i ≠ .cop2 f) ∧ Completes s i t := by
  by_cases hi : ∃ f, i = .cop2 f
  · obtain ⟨f, rfl⟩ := hi
    rw [exec_cop2, State.checkCop2_of_refused _ (s.cop2Refused_iff.2 (.inl hcop2))] at h
    exact .inl ⟨.ri, (Host.Outcome.next.inj h).symm⟩
  · exact (exec_traps_or_completes h).imp_right fun hdone => ⟨fun f hf => hi ⟨f, hf⟩, hdone⟩

/-- An instruction run in user mode changes no byte of the kernel-only segment. -/
theorem exec_load8_of_user {i : Instr} {s t : State} (hbits : s.params.paBits = 32) (hcop2 : s.params.hasCop2 = false)
    (huser : s.status.kuc = true) (h : exec i s = .next t) {a : Word} (ha : a.msb = false) : t.load8 a = s.load8 a := by
  obtain ⟨e, rfl⟩ | ⟨hnotCop2, hdone⟩ := exec_without_cop2 hcop2 h
  · exact s.trapEntry_load8 e a
  · by_contra hne
    obtain ⟨rs, imm, n, k, hstore, hok, hk, hphysical⟩ := hdone.load8 hnotCop2 hne
    have hmsb := msb_of_accessOk huser hok (storeOperand_bytes hstore) hk
    rw [← eq_of_physical_eq hbits hphysical, ha] at hmsb
    exact Bool.false_ne_true hmsb

/-- Settles O19: the environment stores nothing, trap entry stores nothing, and what a user-mode instruction stores lies
in the upper half. -/
theorem userModeCannotWriteKernelMemory : Obligations.UserModeCannotWriteKernelMemory := by
  intro s t hbits hcop2 huser hreset hstores hstep a ha
  rw [← State.environment_load8 hstores a]
  rw [← s.environment_params] at hbits hcop2
  rw [← s.environment_status] at huser
  obtain ⟨hreset', -⟩ | ⟨-, -, e, rfl⟩ | ⟨-, i, -, -, -, hexec, -⟩ := step_ends hstep
  · simp [hreset] at hreset'
  · exact s.environment.trapEntry_load8 e a
  · exact exec_load8_of_user hbits hcop2 huser hexec ha

end Sys2Proof.Machine
end

section
/-! PROOFS (20_memory.md R79, R80; 60_exceptions.md R343). Noninterference: two runs of a step in user mode, from states
that differ in bytes of the kernel-only segment alone, go side by side. -/

namespace Sys2Proof.Machine

/-! ## States and answers that differ in the kernel-only segment alone -/

/-- The state with another memory. -/
def State.withMem (s : State) (m : Memory) : State := { s with mem := m }

theorem State.withMem_inputs (s : State) (m : Memory) : (s.withMem m).inputs = s.inputs := rfl

theorem State.withMem_address (s : State) (m : Memory) (rs : Reg) (imm : Half) :
    (s.withMem m).address rs imm = s.address rs imm := rfl

/-- The second state is the first but for memory, and every byte of the upper half reads the same. -/
def SameButKernel (s u : State) : Prop :=
  ∃ m, u = s.withMem m ∧ ∀ a : Word, a.msb = true → (s.withMem m).load8 a = s.load8 a

/-- The next states that two answers give, if both give one, differ so. -/
def AnswersAlike (q r : Result) : Prop := ∀ t u, q = .next t → r = .next u → SameButKernel t u

theorem answersAlike_next {t u : State} (h : SameButKernel t u) : AnswersAlike (.next t) (.next u) := by
  rintro _ _ ⟨⟩ ⟨⟩
  exact h

theorem answersAlike_refused {q : Result} (why : Refusal) : AnswersAlike q (.refused why) := by
  rintro _ _ - ⟨⟩

theorem answersAlike_ite {c : Bool} {q q' r r' : Result} (hq : c = true → AnswersAlike q q')
    (hr : c = false → AnswersAlike r r') : AnswersAlike (if c then q else r) (if c then q' else r') := by
  cases c
  · exact hr rfl
  · exact hq rfl

/-! ## The operations that reach memory -/

theorem SameButKernel.store8 {s u : State} (h : SameButKernel s u) (a : Word) (b : Byte) :
    SameButKernel (s.store8 a b) (u.store8 a b) := by
  obtain ⟨m, rfl, hupper⟩ := h
  have hstored (p : Word) (hp : p.msb = true) : ((s.withMem m).store8 a b).load8 p = (s.store8 a b).load8 p := by
    rw [State.load8_store8, State.load8_store8, hupper p hp]
    rfl
  exact ⟨((s.withMem m).store8 a b).mem, rfl, hstored⟩

theorem SameButKernel.storeBytes {s u : State} (h : SameButKernel s u) (a : Word) (bytes : List Byte) :
    SameButKernel (s.storeBytes a bytes) (u.storeBytes a bytes) := by
  induction bytes generalizing s u a with
  | nil => exact h
  | cons b bytes ih => exact ih (h.store8 a b) (a + 1#32)

theorem SameButKernel.store32 {s u : State} (h : SameButKernel s u) (a v : Word) :
    SameButKernel (s.store32 a v) (u.store32 a v) := by
  rw [State.store32_eq_storeBytes, State.store32_eq_storeBytes]
  exact h.storeBytes a _

theorem SameButKernel.storeWidth {s u : State} (h : SameButKernel s u) (width : Width) (a v : Word) :
    SameButKernel (s.storeWidth width a v) (u.storeWidth width a v) := by
  cases width with
  | byte => exact h.store8 a _
  | half => exact (h.store8 a _).store8 (a + 1#32) _
  | word => exact h.store32 a v

/-! ## The environment (R300 part E) -/

theorem SameButKernel.envAction {s u : State} (h : SameButKernel s u) (a : EnvAction) :
    SameButKernel (s.envAction a) (u.envAction a) := by
  cases a with
  | tick | hostWriteFromhost | hostReadTohost | hostSetIP6 | clearLink =>
    obtain ⟨m, rfl, hupper⟩ := h
    exact ⟨m, rfl, hupper⟩
  | otherStore width addr v =>
    simp only [State.envAction]
    split
    · exact h.storeWidth width addr v
    · exact h
  | otherSC addr v =>
    simp only [State.envAction]
    split
    · obtain ⟨m, hu, hupper⟩ := h.store32 addr v
      obtain ⟨n, rfl, -⟩ := h
      refine ⟨m, ?_, hupper⟩
      simp only [State.otherSC, hu]
      rfl
    · exact h

theorem SameButKernel.environment {s u : State} (h : SameButKernel s u) :
    SameButKernel s.environment u.environment := by
  have hfold (actions : List EnvAction) {s u : State} (h : SameButKernel s u) :
      SameButKernel (actions.foldl State.envAction s) (actions.foldl State.envAction u) := by
    induction actions generalizing s u with
    | nil => exact h
    | cons a actions ih => exact ih (h.envAction a)
  obtain ⟨m, rfl, hupper⟩ := h
  cases hinputs : s.inputs with
  | nil =>
    rw [State.environment_of_nil hinputs, State.environment_of_nil (s := s.withMem m) hinputs]
    exact ⟨m, rfl, hupper⟩
  | cons input rest =>
    simp only [State.environment, State.withMem_inputs, hinputs]
    exact hfold input.actions (s := { s with inputs := rest }) ⟨m, rfl, hupper⟩

theorem SameButKernel.advance {s u : State} (h : SameButKernel s u) : SameButKernel s.advance u.advance := by
  obtain ⟨m, rfl, hupper⟩ := h
  exact ⟨m, rfl, hupper⟩

theorem SameButKernel.trapEntry {s u : State} (h : SameButKernel s u) (e : Exc) :
    SameButKernel (s.trapEntry e) (u.trapEntry e) := by
  obtain ⟨m, rfl, hupper⟩ := h
  exact ⟨m, rfl, hupper⟩

/-! ## One instruction in user mode -/

section
variable {s : State} {m : Memory}
  (hupper : ∀ a : Word, a.msb = true → (s.withMem m).load8 a = s.load8 a)
include hupper

theorem answersAlike_raise (e : Exc) : AnswersAlike (s.raise e) ((s.withMem m).raise e) :=
  answersAlike_next (SameButKernel.trapEntry ⟨m, rfl, hupper⟩ e)

/-- A check that does not look at memory fails in both or in neither. -/
theorem answersAlike_check {c : Bool} {e : Exc} {q r : Result} (h : c = false → AnswersAlike q r) :
    AnswersAlike (if c then s.raise e else q) (if c then (s.withMem m).raise e else r) :=
  answersAlike_ite (fun _ => answersAlike_raise hupper e) h

theorem answersAlike_checkLoad {a : Word} {n : Nat} {done done' : State}
    (h : AccessOk s a n → SameButKernel done done') :
    AnswersAlike (s.checkLoad a n done) ((s.withMem m).checkLoad a n done') :=
  answersAlike_check hupper fun hok => answersAlike_next (h ((accessOk_iff s a n).2 hok))

theorem answersAlike_checkStore {a : Word} {n : Nat} {done done' : State}
    (h : AccessOk s a n → SameButKernel done done') :
    AnswersAlike (s.checkStore a n done) ((s.withMem m).checkStore a n done') :=
  answersAlike_check hupper fun hok => answersAlike_next (h ((accessOk_iff s a n).2 hok))

/-- Where the coprocessor is refused an instruction that begins with the check raises RI in both. -/
theorem answersAlike_checkCop2 {q r : Result} (hrefused : s.cop2Refused = true) :
    AnswersAlike (s.checkCop2 q) ((s.withMem m).checkCop2 r) :=
  answersAlike_check hupper fun hnot => absurd (hrefused.symm.trans hnot) (by decide)

theorem answersAlike_branch (taken : Bool) (imm : Half) :
    AnswersAlike (s.branch taken imm) ((s.withMem m).branch taken imm) := by
  rw [State.branch_eq, State.branch_eq]
  exact answersAlike_next ⟨m, rfl, hupper⟩

theorem sameButKernel_loaded (rt : Reg) (v : Word) :
    SameButKernel (s.loaded rt v) ((s.withMem m).loaded rt v) := ⟨m, rfl, hupper⟩

/-! ### The bytes of a permitted access read the same -/

section
variable (huser : s.status.kuc = true)
include huser

theorem load8_add_alike {a : Word} {n k : Nat} (hok : AccessOk s a n) (hn : n = 1 ∨ n = 2 ∨ n = 4) (hk : k < n) :
    (s.withMem m).load8 (a + BitVec.ofNat 32 k) = s.load8 (a + BitVec.ofNat 32 k) :=
  hupper _ (msb_of_accessOk huser hok hn hk)

theorem load8_alike {a : Word} {n : Nat} (hok : AccessOk s a n) (hn : n = 1 ∨ n = 2 ∨ n = 4) :
    (s.withMem m).load8 a = s.load8 a := by
  simpa using load8_add_alike hupper huser hok hn (k := 0) (by omega)

theorem load16_alike {a : Word} (hok : AccessOk s a 2) : (s.withMem m).load16 a = s.load16 a := by
  rw [State.load16, State.load16, load8_alike hupper huser hok (by decide),
    load8_add_alike hupper huser hok (by decide) (k := 1) (by decide)]

theorem load32_alike {a : Word} (hok : AccessOk s a 4) : (s.withMem m).load32 a = s.load32 a := by
  rw [State.load32, State.load32, load8_alike hupper huser hok (by decide),
    load8_add_alike hupper huser hok (by decide) (k := 1) (by decide),
    load8_add_alike hupper huser hok (by decide) (k := 2) (by decide),
    load8_add_alike hupper huser hok (by decide) (k := 3) (by decide)]

end

/-! ### What the longer endings leave -/

theorem sameButKernel_conditionallyStored (a : Word) (rt : Reg) :
    SameButKernel (s.conditionallyStored a rt) ((s.withMem m).conditionallyStored a rt) := by
  cases hlink : s.linkValid with
  | true =>
    rw [State.conditionallyStored_of_link hlink, State.conditionallyStored_of_link (s := s.withMem m) hlink]
    obtain ⟨n, hn, hupper'⟩ := SameButKernel.store32 ⟨m, rfl, hupper⟩ a (s.readReg rt)
    exact ⟨n, congrArg (fun t : State => t.writeReg rt 1#32) hn, hupper'⟩
  | false =>
    rw [State.conditionallyStored_of_no_link hlink, State.conditionallyStored_of_no_link (s := s.withMem m) hlink]
    exact ⟨m, rfl, hupper⟩

theorem sameButKernel_cp0Write (n : Reg) (v : Word) :
    SameButKernel (s.cp0Write n v) ((s.withMem m).cp0Write n v) := by
  unfold State.cp0Write
  split <;> exact ⟨m, rfl, hupper⟩

/-- One instruction in user mode, without the coprocessor: what it reads of memory is in the upper half, and nothing
else it does depends on memory. -/
theorem exec_alike (huser : s.status.kuc = true) (hcop2 : s.params.hasCop2 = false) (i : Instr) :
    AnswersAlike (exec i s) (exec i (s.withMem m)) := by
  have hrefused : s.cop2Refused = true := s.cop2Refused_iff.2 (.inl hcop2)
  have hsame : SameButKernel s (s.withMem m) := ⟨m, rfl, hupper⟩
  cases i with
  | lb rt rs imm | lbu rt rs imm =>
    refine answersAlike_checkLoad hupper fun hok => ?_
    rw [State.withMem_address, load8_alike hupper huser hok (by decide)]
    exact sameButKernel_loaded hupper rt _
  | lh rt rs imm | lhu rt rs imm =>
    refine answersAlike_checkLoad hupper fun hok => ?_
    rw [State.withMem_address, load16_alike hupper huser hok]
    exact sameButKernel_loaded hupper rt _
  | lw rt rs imm =>
    refine answersAlike_checkLoad hupper fun hok => ?_
    rw [State.withMem_address, load32_alike hupper huser hok]
    exact sameButKernel_loaded hupper rt _
  | ll rt rs imm =>
    refine answersAlike_checkLoad hupper fun hok => ?_
    rw [State.withMem_address, load32_alike hupper huser hok]
    exact ⟨m, rfl, hupper⟩
  | sb rt rs imm =>
    refine answersAlike_checkStore hupper fun _ => ?_
    exact (hsame.store8 (s.address rs imm) _).advance
  | sh rt rs imm =>
    rw [exec_sh, exec_sh]
    exact answersAlike_checkStore hupper fun _ => (hsame.storeBytes (s.address rs imm) _).advance
  | sw rt rs imm =>
    rw [exec_sw, exec_sw]
    exact answersAlike_checkStore hupper fun _ => (hsame.storeBytes (s.address rs imm) _).advance
  | sc rt rs imm =>
    refine answersAlike_checkStore hupper fun _ => ?_
    obtain ⟨n, hn, hupper'⟩ := sameButKernel_conditionallyStored hupper (s.address rs imm) rt
    exact ⟨n, congrArg (fun t : State => { (t.drawn 1).advance with linkValid := s.anyBit }) hn, hupper'⟩
  | addi | add | sub => exact answersAlike_check hupper fun _ => answersAlike_next ⟨m, rfl, hupper⟩
  | addiu | slti | sltiu | andi | ori | xori | lui => exact answersAlike_next ⟨m, rfl, hupper⟩
  | sll | srl | sra | sllv | srlv | srav => exact answersAlike_next ⟨m, rfl, hupper⟩
  | addu | subu | and | or | xor | nor | slt | sltu => exact answersAlike_next ⟨m, rfl, hupper⟩
  | mfhi | mthi | mflo | mtlo | mult | multu => exact answersAlike_next ⟨m, rfl, hupper⟩
  | div | divu =>
    exact answersAlike_ite (fun _ => answersAlike_next ⟨m, rfl, hupper⟩) fun _ => answersAlike_next ⟨m, rfl, hupper⟩
  | j | jal | jr | jalr => exact answersAlike_next ⟨m, rfl, hupper⟩
  | beq | bne | blez | bgtz | bltz | bgez => exact answersAlike_branch hupper _ _
  | mfc0 rt rd => exact answersAlike_check hupper fun _ => answersAlike_next ⟨m, rfl, hupper⟩
  | mtc0 rt rd =>
    exact answersAlike_check hupper fun _ => answersAlike_next (sameButKernel_cp0Write hupper rd _).advance
  | eret => exact answersAlike_check hupper fun _ => answersAlike_next ⟨m, rfl, hupper⟩
  | mfc2 | mtc2 | cfc2 | ctc2 | cop2 => exact answersAlike_checkCop2 hupper hrefused
  | lwc2 | swc2 => exact answersAlike_checkCop2 hupper hrefused
  | syscall => exact answersAlike_raise hupper .sys
  | brk => exact answersAlike_raise hupper .bp
  | sync => exact answersAlike_next ⟨m, rfl, hupper⟩

/-! ### The step -/

theorem raiseInVariant_alike (e : Exc) : AnswersAlike (s.raiseInVariant e) ((s.withMem m).raiseInVariant e) :=
  answersAlike_ite (fun _ => answersAlike_raise hupper e) fun _ => answersAlike_refused .outsideVariant

/-- Fetch, decode and execute: the word at pc is in the upper half, or the fetch fails in both. -/
theorem runInstruction_alike (huser : s.status.kuc = true) (hcop2 : s.params.hasCop2 = false) :
    AnswersAlike s.runInstruction (s.withMem m).runInstruction := by
  by_cases hok : AccessOk s s.pc 4
  · have hok' : AccessOk (s.withMem m) (s.withMem m).pc 4 := hok
    have hword : (s.withMem m).load32 (s.withMem m).pc = s.load32 s.pc := load32_alike hupper huser hok
    cases hdecode : decodeWord (s.load32 s.pc) with
    | reserved why =>
      rw [State.runInstruction_of_decode_reserved hok hdecode,
        State.runInstruction_of_decode_reserved hok' (hword ▸ hdecode)]
      exact raiseInVariant_alike hupper .ri
    | instr i =>
      rw [State.runInstruction_of_decode_instr hok hdecode,
        State.runInstruction_of_decode_instr hok' (hword ▸ hdecode)]
      exact answersAlike_ite (fun _ => exec_alike hupper huser hcop2 i) fun _ => answersAlike_refused .outsideVariant
  · have hbad : ¬ AccessOk (s.withMem m) (s.withMem m).pc 4 := hok
    rw [State.runInstruction_of_not_accessOk hok, State.runInstruction_of_not_accessOk hbad]
    exact raiseInVariant_alike hupper .adEF

end

/-- Whether an interrupt is taken depends on nothing in memory. -/
theorem SameButKernel.takesInterrupt {s : State} {m : Memory} (h : SameButKernel s (s.withMem m)) :
    (s.withMem m).takesInterrupt = s.takesInterrupt := by
  obtain ⟨n, hn, -⟩ := h.environment
  simp only [State.takesInterrupt, hn]
  rfl

theorem step_alike {s : State} {m : Memory} (huser : s.status.kuc = true) (hcop2 : s.params.hasCop2 = false)
    (hreset : s.nextInput.reset = false) (hsame : SameButKernel s (s.withMem m)) :
    AnswersAlike (step s) (step (s.withMem m)) := by
  have hreset' : (s.withMem m).nextInput.reset = false := hreset
  obtain ⟨n, hn, hupper⟩ := hsame.environment
  simp only [step, hreset, hreset', hsame.takesInterrupt, hn, Bool.false_eq_true, if_false]
  refine answersAlike_ite (fun _ => ?interrupt) fun _ => ?instruction
  case interrupt => exact answersAlike_raise hupper _
  case instruction => exact runInstruction_alike hupper (by simpa using huser) (by simpa using hcop2)

/-- Settles O20: the environment acts alike on both, and so does what the step then does. -/
theorem userModeCannotReadKernelMemory : Obligations.UserModeCannotReadKernelMemory := by
  intro s t u m _ hcop2 huser hreset hupper hs hu
  obtain ⟨n, rfl, hupper'⟩ := step_alike huser hcop2 hreset ⟨m, rfl, hupper⟩ t u hs hu
  exact ⟨rfl, hupper'⟩

end Sys2Proof.Machine
end
